-- ==== Sys2Proof/Word.lean ====
section
/-! DEFINITION. The words of the hardware: bytes, command words, containers and views (spec/00_scope.md section 5). -/

namespace Sys2Proof

/-- One byte of input or output (`20_memory.md` R38). -/
abbrev Byte := BitVec 8

/-- One command word (`30_encoding.md` R53). -/
abbrev CmdWord := BitVec 16

/-- A 64-bit container (`00_scope.md` section 5): a `W`-bit value with zeros above it. -/
abbrev Container := BitVec 64

/-- A 128-bit container, wide enough for the hexadecimal views (`10_state.md` R18). -/
abbrev View := BitVec 128

end Sys2Proof
end

