-- ==== Sys2Proof/Config.lean ====
section
/-! DEFINITION. The parameters of a hardware and of its environment, and the free values (`10_state.md` R32, R34). -/

namespace Sys2Proof

/-- The order of the bytes of a serialized result (`00_scope.md` R6). -/
inductive ByteOrder where
  | lsbFirst
  | msbFirst
  deriving DecidableEq, Repr

/-- The constants of one block: `BYTE_ORDER` (`00_scope.md` R6) and `BUFCAP` (`00_scope.md` R7), whose range
0 to 2^32 - 1 is the range of its type. No command and no reset changes them (`70_reset_and_hazards.md` R125). -/
structure Params where
  byteOrder : ByteOrder
  bufCap    : BitVec 32
  deriving DecidableEq, Repr

/-- The parameters that `State.reset` shows: `LSB_FIRST`, the value R6 shows "wherever one value must be shown", and a
capacity of 65536 bytes. DESIGN CHOICE, unsafe (log 2): R7 leaves `BUFCAP` open; every statement is about all
parameters. -/
def Params.shown : Params := { byteOrder := .lsbFirst, bufCap := 65536#32 }

/-- How a byte source that opened goes on after its last byte (`20_memory.md` R40): end of input, a failing read, or no
answer at all (also a source that never ends: it is as far from an end). -/
inductive SrcEnding where
  | eof
  | fail
  | silent
  deriving DecidableEq, Repr, Inhabited

/-- What the byte source answers to one COMPUTE_SRC (`20_memory.md` R40, `70_reset_and_hazards.md` R131): no answer to
`SrcOpen`, `OpenFail`, or `OpenOk` and then bytes and an ending. -/
inductive SrcScript where
  | silent
  | openFail
  | opened (bytes : List Byte) (ending : SrcEnding)
  deriving DecidableEq, Repr, Inhabited

/-- FREE VALUE (log 4): what the `draw`-th draw finds in the register numbered `no` while it holds no value
(`10_state.md` R34). -/
opaque Config.freeReg : (draw no : Nat) → View

/-- FREE VALUE (log 4): what the `draw`-th draw finds in entry `index` of TABLE while it holds no value. -/
opaque Config.freeEntry : (draw index : Nat) → Container

/-- FREE VALUE (log 5): what the `draw`-th draw finds at BUF offset `offset` while the host has not written it. -/
opaque Config.freeByte : (draw offset : Nat) → Byte

/-- FREE VALUE (log 6): what the byte source answers to a COMPUTE_SRC whose answers nobody named (`20_memory.md` R40:
"Every answer is the environment's"). -/
opaque Config.freeScript : (draw : Nat) → SrcScript

end Sys2Proof
end

