-- ==== Sys2Proof/Syntax.lean ====
section
/-! DEFINITION. The seven commands and their operand fields (`30_encoding.md` R54 to R60). -/

namespace Sys2Proof

/-- The `cfgsel` field, all four values of the table of `30_encoding.md` R58. -/
inductive CfgSel where
  | arg
  | std16
  | std64
  | reserved
  deriving DecidableEq, Repr

/-- The `lensel` field (`30_encoding.md` R59): the length is BUF_LEN or ARG_LEN. -/
inductive LenSel where
  | bufLen
  | argLen
  deriving DecidableEq, Repr

/-- The commands: one constructor per row of spec/opcode_table.json (`30_encoding.md` R56). -/
inductive Instr where
  | init (cfgsel : CfgSel)
  | updb (imm8 : Byte)
  | update (lensel : LenSel)
  | finalize
  | finalizeHex
  | computeBuf (cfgsel : CfgSel) (lensel : LenSel)
  | computeSrc (cfgsel : CfgSel)
  deriving DecidableEq, Repr

/-- COMPUTE_BUF and COMPUTE_SRC (`43_oneshot.md` R96). -/
def Instr.isOneShot : Instr → Bool
  | .computeBuf _ _ => true
  | .computeSrc _ => true
  | .init _ => false
  | .updb _ => false
  | .update _ => false
  | .finalize => false
  | .finalizeHex => false

end Sys2Proof
end

