-- ==== Sys2Proof/Machine/State.lean ====
section
/-! DEFINITION. The state of the machine (`10_state.md` R10), the outside world's coming actions, the reasons a step can
stop, and the state after reset (`10_state.md` R33). -/

namespace Sys2Proof.Machine

open Sys2Proof

/-- STATE, the life-cycle state of the context (`10_state.md` R11). The code 3 never occurs and has no constructor. -/
inductive Life where
  | created
  | initialized
  | finalized
  deriving DecidableEq, Repr

/-- RESULT (`10_state.md` R24, `60_exceptions.md` R105). The codes 5 to 7 are never produced and have no constructor. -/
inductive ResultCode where
  | ok
  | invalidArgument
  | invalidState
  | ioFailure
  | illegalCommand
  deriving DecidableEq, Repr

/-- The engine is idle and accepts a command (`20_memory.md` R41), or it waits inside a COMPUTE_SRC for an answer that
does not come (`43_oneshot.md` R103, `60_exceptions.md` R120). -/
inductive Engine where
  | idle
  | waiting
  deriving DecidableEq, Repr

/-- The registers of the register port, in the order of their numbers 0x00 to 0x14 (`10_state.md` R27). -/
inductive Reg where
  | state
  | result
  | errlog
  | errinfo
  | cfgWidth
  | cfgPoly
  | cfgSeed
  | reg
  | digest
  | outBytes
  | outHex
  | ovalid
  | owidth
  | odigest
  | ooutBytes
  | ooutHex
  | argWidth
  | argPoly
  | argSeed
  | argLen
  | bufLen
  deriving DecidableEq, Repr

/-- The container bits of each register (`10_state.md` R27). -/
abbrev Reg.width : Reg → Nat
  | .state => 2
  | .result => 3
  | .errlog => 5
  | .errinfo => 64
  | .cfgWidth => 8
  | .cfgPoly => 64
  | .cfgSeed => 64
  | .reg => 64
  | .digest => 64
  | .outBytes => 64
  | .outHex => 128
  | .ovalid => 1
  | .owidth => 8
  | .odigest => 64
  | .ooutBytes => 64
  | .ooutHex => 128
  | .argWidth => 8
  | .argPoly => 64
  | .argSeed => 64
  | .argLen => 32
  | .bufLen => 32

/-- What the outside world does to the block, one access at a time (`20_memory.md` R35, `30_encoding.md` R66). A register
write carries exactly the container's width (`20_memory.md` R36). -/
inductive HostAction where
  /-- present a command word on the command port -/
  | cmd (word : CmdWord)
  /-- `WR name, v`, also to a read-only register -/
  | wr (r : Reg) (v : BitVec r.width)
  /-- a write to number 0x15 + `past`, which is no register -/
  | wrUnmapped (past : Nat) (v : View)
  /-- `RD name` -/
  | rd (r : Reg)
  /-- a read of number 0x15 + `past`, which is no register -/
  | rdUnmapped (past : Nat)
  /-- `RDT i` -/
  | rdTable (i : BitVec 8)
  /-- an attempt to write an entry of TABLE -/
  | wrTable (i : BitVec 8) (v : Container)
  /-- one byte of `WRBUF` -/
  | wrBuf (off : Nat) (b : Byte)
  /-- a read of one byte of BUF -/
  | rdBuf (off : Nat)
  /-- `SRC script` -/
  | src (script : SrcScript)
  /-- the external reset (`70_reset_and_hazards.md` R123) -/
  | reset
  deriving DecidableEq, Repr

/-- What the host read (`70_reset_and_hazards.md` R136). -/
inductive Reply where
  | reg (r : Reg) (v : BitVec r.width)
  | unmapped (past : Nat) (v : View)
  | entry (i : BitVec 8) (v : Container)
  | byte (off : Nat) (b : Byte)
  deriving DecidableEq, Repr

/-- TABLE: 256 entries of 64 bits (`10_state.md` R15). -/
abbrev Table := Vector Container 256

/-- BUF (`20_memory.md` R38): the bytes the host has written, by offset, offsets strictly rising. An offset that is not
listed holds no value (`10_state.md` R33). -/
abbrev Memory := List Host.Cell

/-- The whole state. Fields up to `errinfo` are the complete architectural state of `10_state.md` R10; `engine` is the
idle or busy engine of `20_memory.md` R41; the rest are parameters of the step (`10_state.md` R32) and, last, the
model's own counter of free draws. -/
structure State where
  /-- STATE -/
  life : Life
  /-- CFG_WIDTH -/
  cfgWidth : BitVec 8
  /-- CFG_POLY -/
  cfgPoly : Container
  /-- CFG_SEED -/
  cfgSeed : Container
  /-- REG -/
  reg : Container
  /-- TABLE -/
  table : Table
  /-- DIGEST -/
  digest : Container
  /-- ODIGEST -/
  odigest : Container
  /-- OWIDTH -/
  owidth : BitVec 8
  /-- OVALID -/
  ovalid : Bool
  /-- ARG_WIDTH -/
  argWidth : BitVec 8
  /-- ARG_POLY -/
  argPoly : Container
  /-- ARG_SEED -/
  argSeed : Container
  /-- ARG_LEN -/
  argLen : BitVec 32
  /-- BUF_LEN -/
  bufLen : BitVec 32
  /-- the host wrote ARG_WIDTH since reset (`10_state.md` R27, last column) -/
  argWidthHeld : Bool
  /-- the host wrote ARG_POLY since reset -/
  argPolyHeld : Bool
  /-- the host wrote ARG_SEED since reset -/
  argSeedHeld : Bool
  /-- the host wrote ARG_LEN since reset -/
  argLenHeld : Bool
  /-- BUF -/
  buf : Memory
  /-- RESULT -/
  result : ResultCode
  /-- ERRLOG -/
  errlog : BitVec 5
  /-- ERRINFO -/
  errinfo : Container
  /-- idle, or waiting for a byte source that does not answer -/
  engine : Engine
  /-- BYTE_ORDER and BUFCAP; no step changes them -/
  params : Params
  /-- what the host will do, the next action first -/
  host : List HostAction
  /-- what the byte source will answer to the next COMPUTE_SRC, where the host named it -/
  src : Option SrcScript
  /-- what the host has read, the first read first -/
  replies : List Reply
  /-- the model's own counter: how many free draws were made (log 4) -/
  draws : Nat
  deriving DecidableEq, Repr

/-- Why a step stops. -/
inductive Fault where
  /-- Raised by a host access to BUF at an offset of BUFCAP or above: `20_memory.md` R38 gives BUF the offsets 0 to
  BUFCAP - 1, so the place does not exist. Safe: the machine stops where the spec says nothing (log 9). No command raises
  it: an engine read is always below BUFCAP (R39). -/
  | bufOffsetOutside (off : Nat)
  deriving DecidableEq, Repr

/-- Why a step has no meaning. -/
inductive Refusal where
  /-- An instruction whose arm in exec has no meaning yet. Safe. No arm raises it. -/
  | notModelled (mnemonic : String)
  /-- Raised by the step when the host does anything but reset while a COMPUTE_SRC waits for its source:
  `70_reset_and_hazards.md` R128 and `93_implementation_defined.md` U3 give such an access no meaning, and
  `20_memory.md` R41 accepts no command word then. Safe (log 8). -/
  | hostDuringCommand
  deriving DecidableEq, Repr

/-- The state after reset of a block with the parameters `p`, with no host action to come (`10_state.md` R33,
`70_reset_and_hazards.md` R124). Given by R33: STATE, RESULT, ERRLOG, ERRINFO, OVALID, BUF_LEN. Every other register
"holds no value" there; its content here is 0, DESIGN CHOICE, and no read returns it (log 3, log 4). -/
def State.resetFor (p : Params) : State where
  life := .created
  cfgWidth := 0
  cfgPoly := 0
  cfgSeed := 0
  reg := 0
  table := Vector.replicate 256 0
  digest := 0
  odigest := 0
  owidth := 0
  ovalid := false
  argWidth := 0
  argPoly := 0
  argSeed := 0
  argLen := 0
  bufLen := 0
  argWidthHeld := false
  argPolyHeld := false
  argSeedHeld := false
  argLenHeld := false
  buf := []
  result := .ok
  errlog := 0
  errinfo := 0
  engine := .idle
  params := p
  host := []
  src := none
  replies := []
  draws := 0

/-- The state after reset with the parameters the model shows (log 2). -/
def State.reset : State := State.resetFor Params.shown

end Sys2Proof.Machine
end

