-- ==== Sys2Proof/Machine/Flags.lean ====
section
/-! DEFINITION. Codes and status bits: STATE and RESULT codes, ERRLOG bits, the layouts of ERRINFO, the counter of
COMPUTE_SRC (`10_state.md` R11, R24 to R26; `60_exceptions.md` R105 to R112). -/

namespace Sys2Proof.Machine

open Sys2Proof

/-- The codes of STATE (`10_state.md` R11). -/
def Life.code : Life → BitVec 2
  | .created => 0#2
  | .initialized => 1#2
  | .finalized => 2#2

/-- The codes of RESULT (`60_exceptions.md` R105). -/
def ResultCode.code : ResultCode → BitVec 3
  | .ok => 0#3
  | .invalidArgument => 1#3
  | .invalidState => 2#3
  | .ioFailure => 3#3
  | .illegalCommand => 4#3

/-- The causes of INVALID_ARGUMENT (`60_exceptions.md` R106). -/
inductive ArgCause where
  | width
  | poly
  | seed
  | bufCap
  | length
  deriving DecidableEq, Repr

/-- The sub-cause numbers (`60_exceptions.md` R106). -/
def ArgCause.code : ArgCause → BitVec 4
  | .width => 1#4
  | .poly => 2#4
  | .seed => 3#4
  | .bufCap => 4#4
  | .length => 5#4

/-- The phases of IO_FAILURE (`60_exceptions.md` R108). -/
inductive IoPhase where
  | openSource
  | readSource
  deriving DecidableEq, Repr

/-- ERRINFO bit 63 (`60_exceptions.md` R108). -/
def IoPhase.bit : IoPhase → BitVec 1
  | .openSource => 0#1
  | .readSource => 1#1

/-- The errors a command can complete with, with the detail ERRINFO records (`60_exceptions.md` R104). -/
inductive CmdError where
  | invalidArgument (cause : ArgCause)
  | invalidState (found : Life)
  | ioFailure (phase : IoPhase) (count : BitVec 63)
  | illegalCommand (word : CmdWord)
  deriving DecidableEq, Repr

/-- The result code of an error (`60_exceptions.md` R105). -/
def CmdError.result : CmdError → ResultCode
  | .invalidArgument _ => .invalidArgument
  | .invalidState _ => .invalidState
  | .ioFailure _ _ => .ioFailure
  | .illegalCommand _ => .illegalCommand

/-- The content of ERRINFO (`10_state.md` R26, `60_exceptions.md` R106 to R109). -/
def CmdError.info : CmdError → Container
  | .invalidArgument c => 0#60 ++ c.code
  | .invalidState l => 0#62 ++ l.code
  | .ioFailure p n => p.bit ++ n
  | .illegalCommand w => 0#48 ++ w

/-- `ERRLOG[c] <- 1` (`10_state.md` R25, `60_exceptions.md` R112). -/
def errlogSet (log : BitVec 5) (c : ResultCode) : BitVec 5 := log ||| (1#5 <<< c.code.toNat)

/-- The byte count of COMPUTE_SRC: one more, saturating at 2^63 - 1 (`41_update.md` R138, `43_oneshot.md` R98). -/
def countUp (n : BitVec 63) : BitVec 63 := if n = BitVec.allOnes 63 then n else n + 1#63

/-- The state check of each command, the table of `60_exceptions.md` R111. The meanings make this check themselves; this
is the table they are held against. -/
def Life.permits : Life → Instr → Bool
  | _, .init _ => true
  | l, .updb _ => l = .initialized
  | l, .update _ => l = .initialized
  | l, .finalize => l = .initialized
  | l, .finalizeHex => l ≠ .created
  | _, .computeBuf _ _ => true
  | _, .computeSrc _ => true

end Sys2Proof.Machine
end

