-- ==== Sys2Proof/Machine/Ops.lean ====
section
/-! DEFINITION. The named operations: BUF, the table generator, the update engine, the finalizer and serializer, reads and
writes of registers, and the completion record, which is how this hardware takes an exception. -/

namespace Sys2Proof.Machine

open Sys2Proof

/-! ### BUF (`20_memory.md` R38, R39) -/

/-- What an offset that is not listed reads as: it holds no value (`10_state.md` R33, log 5). -/
def Memory.unlisted : Option Byte := none

/-- The byte the host last wrote at an offset, or no value. -/
def Memory.read : Memory → Nat → Option Byte
  | [], _ => Memory.unlisted
  | (c, x) :: m, a => if a = c then some x else Memory.read m a

/-- A host write of one byte (`20_memory.md` R38). -/
def Memory.write : Memory → Nat → Byte → Memory
  | [], a, b => [(a, b)]
  | (c, x) :: m, a, b =>
    if a < c then (a, b) :: (c, x) :: m
    else if a = c then (a, b) :: m
    else (c, x) :: Memory.write m a b

/-- The canonical form: offsets strictly rise, and no entry equals what an unlisted offset reads as. -/
def Memory.wf : Memory → Bool
  | [] => true
  | [(_, x)] => some x ≠ Memory.unlisted
  | (c, x) :: (d, y) :: m => c < d && some x ≠ Memory.unlisted && Memory.wf ((d, y) :: m)

/-- Every listed offset is below a bound. -/
def Memory.below (cap : Nat) (m : Memory) : Bool := m.all fun cell => cell.1 < cap

/-! ### The table generator (`40_init_table.md` R67) -/

/-- One shift-and-XOR step on a `W`-bit value; the test is on bit 0 before the shift. -/
def shiftStep {W : Nat} (poly entry : BitVec W) : BitVec W :=
  if entry.getLsbD 0 then (entry >>> 1) ^^^ poly else entry >>> 1

/-- `n` steps, one after the other. -/
def shiftSteps {W : Nat} (poly : BitVec W) : Nat → BitVec W → BitVec W
  | 0, e => e
  | n + 1, e => shiftSteps poly n (shiftStep poly e)

/-- Entry `i`: exactly eight steps from the byte value widened to `W` bits (R67, R76). -/
def tableEntry {W : Nat} (poly : BitVec W) (i : Byte) : BitVec W := shiftSteps poly 8 (i.setWidth W)

/-- The 256 values of a function on byte values, in order. -/
def tableOf {W : Nat} (f : Byte → BitVec W) : Vector (BitVec W) 256 :=
  ⟨((List.range 256).map fun i => f (BitVec.ofNat 8 i)).toArray, by simp⟩

/-- `MakeTable(W, poly)` (R67). -/
def makeTable {W : Nat} (poly : BitVec W) : Vector (BitVec W) 256 := tableOf (tableEntry poly)

/-- Entry `i` of a table; an 8-bit index is always in range (`20_memory.md` R37). -/
def lookup {W : Nat} (t : Vector (BitVec W) 256) (i : Byte) : BitVec W := t[i.toNat]'i.isLt

/-! ### The update engine (`41_update.md` R77, R78) -/

/-- `UpdateByte(reg, table, b)`: one table read, at an 8-bit index. -/
def updateByte {W : Nat} (reg : BitVec W) (table : Byte → BitVec W) (b : Byte) : BitVec W :=
  (reg >>> 8) ^^^ table (b ^^^ reg.setWidth 8)

/-- `UpdateBytes(reg, table, bytes)`, left to right. -/
def updateBytes {W : Nat} (reg : BitVec W) (table : Byte → BitVec W) : List Byte → BitVec W
  | [] => reg
  | b :: rest => updateBytes (updateByte reg table b) table rest

/-! ### The finalizer and the serializer (`42_finalize_serialize.md`) -/

/-- `Finalize(reg, seed)` (R85). -/
def finalizeValue {W : Nat} (reg seed : BitVec W) : BitVec W := reg ^^^ seed

/-- Byte `k` of a value, counted from the least significant. -/
def byteAt (v : Container) (k : Nat) : Byte := v.extractLsb' (8 * k) 8

/-- `SerBytes(v, W, order)` (R87). -/
def serBytes (v : Container) (W : Nat) (order : ByteOrder) : List Byte :=
  (List.range (W / 8)).map fun k =>
    match order with
    | .lsbFirst => byteAt v k
    | .msbFirst => byteAt v (W / 8 - 1 - k)

/-- The digits of R88, in order. -/
def hexDigits : List Char :=
  ['0', '1', '2', '3', '4', '5', '6', '7', '8', '9', 'a', 'b', 'c', 'd', 'e', 'f']

/-- `HexChar(d)` (R88). -/
def hexChar (d : BitVec 4) : Char := hexDigits[d.toNat]'d.isLt

/-- The 8-bit code of `HexChar(d)` (R88; the spec takes the ASCII codes from general knowledge, log 17). -/
def hexCode (d : BitVec 4) : Byte :=
  if d ≤ 9#4 then 0x30#8 + d.setWidth 8 else 0x61#8 + (d.setWidth 8 - 10#8)

/-- The high and the low nibble of a byte, the high one first (R89; log 17). -/
def nibbles (b : Byte) : List (BitVec 4) := [b.extractLsb' 4 4, b.extractLsb' 0 4]

/-- `SerHex(bytes)` (R89). -/
def serHex (bytes : List Byte) : List Char := bytes.flatMap fun b => (nibbles b).map hexChar

/-- The character codes of `SerHex(bytes)`. -/
def serHexCodes (bytes : List Byte) : List Byte := bytes.flatMap fun b => (nibbles b).map hexCode

/-- Packs a sequence into a container: element `k` at bits 8k+7:8k, zeros above (`10_state.md` R17, R18;
`20_memory.md` R43). -/
def pack (n : Nat) : List Byte → BitVec n
  | [] => 0#n
  | b :: rest => (pack n rest <<< 8) ||| b.setWidth n

/-- OUT_BYTES and OOUT_BYTES of a value (`10_state.md` R17, R20). -/
def bytesView (v : Container) (width : BitVec 8) (order : ByteOrder) : Container :=
  pack 64 (serBytes v width.toNat order)

/-- OUT_HEX and OOUT_HEX of a value (`10_state.md` R18, R20). -/
def hexView (v : Container) (width : BitVec 8) (order : ByteOrder) : View :=
  pack 128 (serHexCodes (serBytes v width.toNat order))

/-! ### Containers (`00_scope.md` section 5) -/

/-- `zext_64`. -/
def widen {W : Nat} (v : BitVec W) : Container := v.setWidth 64

/-- The `W`-bit value in a container: its low `W` bits (log 15). -/
def narrow (W : Nat) (c : Container) : BitVec W := c.setWidth W

/-! ### Registers (`10_state.md` R27, `20_memory.md` R36) -/

/-- The number of a register. -/
def Reg.no : Reg → Nat
  | .state => 0x00
  | .result => 0x01
  | .errlog => 0x02
  | .errinfo => 0x03
  | .cfgWidth => 0x04
  | .cfgPoly => 0x05
  | .cfgSeed => 0x06
  | .reg => 0x07
  | .digest => 0x08
  | .outBytes => 0x09
  | .outHex => 0x0A
  | .ovalid => 0x0B
  | .owidth => 0x0C
  | .odigest => 0x0D
  | .ooutBytes => 0x0E
  | .ooutHex => 0x0F
  | .argWidth => 0x10
  | .argPoly => 0x11
  | .argSeed => 0x12
  | .argLen => 0x13
  | .bufLen => 0x14

/-- The first number that is no register (`10_state.md` R27). -/
def firstUnmapped : Nat := 0x15

/-- The last column of `10_state.md` R27: whether a register holds a value. -/
def State.holds (s : State) : Reg → Bool
  | .state => true
  | .result => true
  | .errlog => true
  | .errinfo => true
  | .cfgWidth => s.life ≠ .created
  | .cfgPoly => s.life ≠ .created
  | .cfgSeed => s.life ≠ .created
  | .reg => s.life ≠ .created
  | .digest => s.life = .finalized
  | .outBytes => s.life = .finalized
  | .outHex => s.life = .finalized
  | .ovalid => true
  | .owidth => s.ovalid
  | .odigest => s.ovalid
  | .ooutBytes => s.ovalid
  | .ooutHex => s.ovalid
  | .argWidth => s.argWidthHeld
  | .argPoly => s.argPolyHeld
  | .argSeed => s.argSeedHeld
  | .argLen => s.argLenHeld
  | .bufLen => true

/-- What a register that holds a value reads as; the four views are computed here (`10_state.md` R17, R18, R20). -/
def State.content (s : State) : (r : Reg) → BitVec r.width
  | .state => s.life.code
  | .result => s.result.code
  | .errlog => s.errlog
  | .errinfo => s.errinfo
  | .cfgWidth => s.cfgWidth
  | .cfgPoly => s.cfgPoly
  | .cfgSeed => s.cfgSeed
  | .reg => s.reg
  | .digest => s.digest
  | .outBytes => bytesView s.digest s.cfgWidth s.params.byteOrder
  | .outHex => hexView s.digest s.cfgWidth s.params.byteOrder
  | .ovalid => BitVec.ofBool s.ovalid
  | .owidth => s.owidth
  | .odigest => s.odigest
  | .ooutBytes => bytesView s.odigest s.owidth s.params.byteOrder
  | .ooutHex => hexView s.odigest s.owidth s.params.byteOrder
  | .argWidth => s.argWidth
  | .argPoly => s.argPoly
  | .argSeed => s.argSeed
  | .argLen => s.argLen
  | .bufLen => s.bufLen

/-- Every read of a register, by the host or by the engine: its content, or a free value while it holds no value
(`10_state.md` R34, log 4). -/
def State.readReg (s : State) (r : Reg) : BitVec r.width :=
  if s.holds r then s.content r else (Config.freeReg s.draws r.no).setWidth r.width

/-- A host write of a register (`10_state.md` R21 to R23, R28): the five RW registers store the value, a read-only
register stays as it is. -/
def State.writeReg (s : State) : (r : Reg) → BitVec r.width → State
  | .argWidth, v => { s with argWidth := v, argWidthHeld := true }
  | .argPoly, v => { s with argPoly := v, argPolyHeld := true }
  | .argSeed, v => { s with argSeed := v, argSeedHeld := true }
  | .argLen, v => { s with argLen := v, argLenHeld := true }
  | .bufLen, v => { s with bufLen := v }
  | .state, _ => s
  | .result, _ => s
  | .errlog, _ => s
  | .errinfo, _ => s
  | .cfgWidth, _ => s
  | .cfgPoly, _ => s
  | .cfgSeed, _ => s
  | .reg, _ => s
  | .digest, _ => s
  | .outBytes, _ => s
  | .outHex, _ => s
  | .ovalid, _ => s
  | .owidth, _ => s
  | .odigest, _ => s
  | .ooutBytes, _ => s
  | .ooutHex, _ => s

/-- A read of entry `i` of TABLE (`20_memory.md` R37): a free value while STATE is Created (`10_state.md` R15). -/
def State.readEntry (s : State) (i : Byte) : Container :=
  if s.life = .created then Config.freeEntry s.draws i.toNat else lookup s.table i

/-- A read of the byte at an offset of BUF (`20_memory.md` R39): a free value while the host has not written it
(`10_state.md` R34, log 5). -/
def State.bufByte (s : State) (off : Nat) : Byte :=
  match s.buf.read off with
  | some b => b
  | none => Config.freeByte s.draws off

/-! ### The completion record: taking an exception and going on (`60_exceptions.md` R112, R115) -/

/-- `complete OK`: RESULT is 0, ERRLOG and ERRINFO keep their values. The next free draw is a new one (log 4). -/
def State.completeOk (s : State) : State := { s with result := .ok, draws := s.draws + 1 }

/-- `raise <Error>(info)`: RESULT, the sticky ERRLOG bit and ERRINFO, and nothing else. No state is saved, no mode changes
and no control goes anywhere (R112), so there is nothing to return from: the engine is idle and takes the next command
(R115). The next free draw is a new one (log 4). -/
def State.raise (s : State) (e : CmdError) : State :=
  { s with
    result := e.result
    errlog := errlogSet s.errlog e.result
    errinfo := e.info
    draws := s.draws + 1 }

/-- A one-shot command that fails also clears OVALID (`43_oneshot.md` R100). -/
def State.raiseOneShot (s : State) (e : CmdError) : State := { s.raise e with ovalid := false }

/-! ### What the commands write -/

/-- A configuration: width, polynomial, seed (`00_scope.md` R3). -/
structure Cfg where
  width : BitVec 8
  poly  : Container
  seed  : Container
  deriving DecidableEq, Repr

/-- The table of a configuration, each entry in its container (`40_init_table.md` R72). -/
def Cfg.table (c : Cfg) : Table := tableOf fun i => widen (lookup (makeTable (narrow c.width.toNat c.poly)) i)

/-- What INIT writes (`40_init_table.md` R72). DIGEST keeps its content and holds no value (log 19). -/
def State.install (s : State) (c : Cfg) : State :=
  { s with
    life := .initialized
    cfgWidth := c.width
    cfgPoly := c.poly
    cfgSeed := c.seed
    reg := c.seed
    table := c.table }

/-- What UPDB and UPDATE write: REG, the bytes folded in at width CFG_WIDTH (`41_update.md` R80, R81). -/
def State.absorb (s : State) (bytes : List Byte) : State :=
  { s with
    reg := widen (updateBytes (narrow s.cfgWidth.toNat s.reg)
      (fun i => narrow s.cfgWidth.toNat (lookup s.table i)) bytes) }

/-- The finalize transition: DIGEST and STATE (`42_finalize_serialize.md` R90, R91). REG is not written (R93). -/
def State.freeze (s : State) : State :=
  { s with
    life := .finalized
    digest := widen (finalizeValue (narrow s.cfgWidth.toNat s.reg) (narrow s.cfgWidth.toNat s.cfgSeed)) }

/-- The result of a successful one-shot command (`10_state.md` R19). ODIGEST is `zext_64(Finalize(r, s))` of the private
register (`43_oneshot.md` R97, R98). -/
def State.storeOneShot (s : State) (c : Cfg) (r : BitVec c.width.toNat) : State :=
  { s with
    odigest := widen (finalizeValue r (narrow c.width.toNat c.seed))
    owidth := c.width
    ovalid := true }

/-- The external reset (`70_reset_and_hazards.md` R123 to R125, R137): the state after reset; the parameters, the
source's answers and the outside world stay, and later free draws stay new ones (log 13). -/
def State.applyReset (s : State) : State :=
  { State.resetFor s.params with host := s.host, src := s.src, replies := s.replies, draws := s.draws }

end Sys2Proof.Machine
end

