-- ==== Sys2Proof/Machine/Operands.lean ====
section
/-! DEFINITION. The operand forms: the selected configuration and its check, the effective length, the bytes of BUF, and
the byte source (`40_init_table.md` R68, R69; `41_update.md` R82; `20_memory.md` R39, R40). -/

namespace Sys2Proof.Machine

open Sys2Proof

/-- The CRC-16 preset (`00_scope.md` R3). -/
def Cfg.std16 : Cfg := { width := 16#8, poly := 0xA001#64, seed := 0x0000#64 }

/-- The CRC-64/ECMA preset (`00_scope.md` R3). -/
def Cfg.std64 : Cfg := { width := 64#8, poly := 0xC96C5795D7870F42#64, seed := 0xFFFFFFFFFFFFFFFF#64 }

/-- The ARG registers as they stand (`40_init_table.md` R68). -/
def State.argCfg (s : State) : Cfg :=
  { width := s.readReg .argWidth, poly := s.readReg .argPoly, seed := s.readReg .argSeed }

/-- `SelectConfig(cfgsel)` (`40_init_table.md` R68); the reserved value selects nothing. -/
def State.selectCfg (s : State) : CfgSel → Option Cfg
  | .arg => some s.argCfg
  | .std16 => some Cfg.std16
  | .std64 => some Cfg.std64
  | .reserved => none

/-- `CheckConfig(w, p, s)` (`40_init_table.md` R69): the first check that fails, or none. -/
def Cfg.check (c : Cfg) : Option ArgCause :=
  if c.width ≠ 16#8 ∧ c.width ≠ 64#8 then some .width
  else if c.poly.toNat ≥ 2 ^ c.width.toNat then some .poly
  else if c.seed.toNat ≥ 2 ^ c.width.toNat then some .seed
  else none

/-- The `length` operand (`30_encoding.md` R59). -/
def State.length (s : State) : LenSel → BitVec 32
  | .bufLen => s.readReg .bufLen
  | .argLen => s.readReg .argLen

/-- `EffectiveLength(lensel)` (`41_update.md` R82), on unsigned 32-bit values: the cause of failure or the length. -/
def State.effectiveLength (s : State) (l : LenSel) : Except ArgCause (BitVec 32) :=
  if s.length .bufLen > s.params.bufCap then .error .bufCap
  else if s.length l > s.length .bufLen then .error .length
  else .ok (s.length l)

/-- `[ MemRead(BUF, j, 1) for j in 0 .. n-1 ]` (`41_update.md` R81): ascending offsets, each once. -/
def State.bufBytes (s : State) (n : Nat) : List Byte := (List.range n).map s.bufByte

/-- What one COMPUTE_SRC gets from its source: the register after the last byte, a failure, or no answer. -/
inductive SrcOutcome (W : Nat) where
  | ended (r : BitVec W)
  | failed (phase : IoPhase) (count : BitVec 63)
  | noAnswer
  deriving DecidableEq, Repr

/-- The loop of `43_oneshot.md` R98, answer by answer. -/
def srcLoop {W : Nat} (table : Byte → BitVec W) (ending : SrcEnding) :
    List Byte → BitVec W → BitVec 63 → SrcOutcome W
  | b :: rest, r, count => srcLoop table ending rest (updateByte r table b) (countUp count)
  | [], r, count =>
    match ending with
    | .eof => .ended r
    | .fail => .failed .readSource count
    | .silent => .noAnswer

/-- One COMPUTE_SRC on its source, from `SrcOpen()` on (`43_oneshot.md` R98). -/
def srcRun {W : Nat} (table : Byte → BitVec W) (seed : BitVec W) : SrcScript → SrcOutcome W
  | .silent => .noAnswer
  | .openFail => .failed .openSource 0#63
  | .opened bytes ending => srcLoop table ending bytes seed 0#63

/-- What the source will answer to the next COMPUTE_SRC: what the host named, else a free script (log 6). -/
def State.srcScript (s : State) : SrcScript :=
  match s.src with
  | some script => script
  | none => Config.freeScript s.draws

end Sys2Proof.Machine
end

