-- ==== Sys2Proof/Machine/Finalize.lean ====
section
/-! DEFINITION. FINALIZE and FINALIZE_HEX (`42_finalize_serialize.md` R90, R91; `90_conflicts.md` C1). -/

namespace Sys2Proof.Machine

open Sys2Proof

/-- FINALIZE (`42_finalize_serialize.md` R90): strict, allowed only in Initialized. -/
def execFinalize (s : State) : Host.Outcome State Fault Refusal :=
  .next (
    if s.life ≠ .initialized then s.raise (.invalidState s.life)
    else s.freeze.completeOk)

/-- FINALIZE_HEX (`42_finalize_serialize.md` R91): finalizes in Initialized, re-reads the frozen result in Finalized. -/
def execFinalizeHex (s : State) : Host.Outcome State Fault Refusal :=
  .next (
    match s.life with
    | .created => s.raise (.invalidState .created)
    | .initialized => s.freeze.completeOk
    | .finalized => s.completeOk)

end Sys2Proof.Machine
end

