-- ==== Sys2Proof/WellFormed.lean ====
section
/-! DEFINITION. Which command terms are commands: the field constraint `cfgsel != 3` of `30_encoding.md` R56. -/

namespace Sys2Proof

/-- `cfgsel` is one of ARG, STD16, STD64 (`30_encoding.md` R58). -/
def CfgSel.wellFormed : CfgSel → Bool
  | .arg => true
  | .std16 => true
  | .std64 => true
  | .reserved => false

/-- The field constraint of each row of `30_encoding.md` R56. -/
def Instr.wellFormed : Instr → Bool
  | .init c => c.wellFormed
  | .updb _ => true
  | .update _ => true
  | .finalize => true
  | .finalizeHex => true
  | .computeBuf c _ => c.wellFormed
  | .computeSrc c => c.wellFormed

end Sys2Proof
end

