-- ==== Sys2Proof/Decode.lean ====
section
/-! DEFINITION. The decoder (`30_encoding.md` R62), total on all 16-bit words and rejecting by name, and the encoder
(`30_encoding.md` R55, R56). -/

namespace Sys2Proof

/-- Why a word is no command (`30_encoding.md` R61). -/
inductive IllegalWord where
  /-- `op` is 0x0 or 0x8 to 0xF. -/
  | reservedOp
  /-- a bit outside the fields of the format is 1 (R57). -/
  | unusedField
  /-- `cfgsel` is 3 (R58). -/
  | reservedCfgsel
  deriving DecidableEq, Repr

/-- Bits 15:12 (`30_encoding.md` R54). -/
def opField (w : CmdWord) : BitVec 4 := w.extractLsb' 12 4

/-- Bits 11:10. -/
def cfgselField (w : CmdWord) : BitVec 2 := w.extractLsb' 10 2

/-- Bit 9. -/
def lenselField (w : CmdWord) : BitVec 1 := w.extractLsb' 9 1

/-- Bits 7:0. -/
def imm8Field (w : CmdWord) : Byte := w.extractLsb' 0 8

/-- The table of `30_encoding.md` R58. -/
def CfgSel.ofBits (b : BitVec 2) : CfgSel :=
  if b = 0#2 then .arg else if b = 1#2 then .std16 else if b = 2#2 then .std64 else .reserved

/-- The table of `30_encoding.md` R58, read the other way. -/
def CfgSel.bits : CfgSel → BitVec 2
  | .arg => 0#2
  | .std16 => 1#2
  | .std64 => 2#2
  | .reserved => 3#2

/-- `30_encoding.md` R59. -/
def LenSel.ofBits (b : BitVec 1) : LenSel := if b = 0#1 then .bufLen else .argLen

/-- `30_encoding.md` R59, read the other way. -/
def LenSel.bits : LenSel → BitVec 1
  | .bufLen => 0#1
  | .argLen => 1#1

/-- A format C word of INIT (`30_encoding.md` R62, case 0x1). -/
def decodeInit (w : CmdWord) : Except IllegalWord Instr :=
  if w.extractLsb' 0 10 ≠ 0#10 then .error .unusedField
  else if cfgselField w = 3#2 then .error .reservedCfgsel
  else .ok (.init (CfgSel.ofBits (cfgselField w)))

/-- A format I word (case 0x2). -/
def decodeUpdb (w : CmdWord) : Except IllegalWord Instr :=
  if w.extractLsb' 8 4 ≠ 0#4 then .error .unusedField else .ok (.updb (imm8Field w))

/-- A format L word (case 0x3). -/
def decodeUpdate (w : CmdWord) : Except IllegalWord Instr :=
  if w.extractLsb' 10 2 ≠ 0#2 ∨ w.extractLsb' 0 9 ≠ 0#9 then .error .unusedField
  else .ok (.update (LenSel.ofBits (lenselField w)))

/-- The format Z word of FINALIZE (case 0x4). -/
def decodeFinalize (w : CmdWord) : Except IllegalWord Instr :=
  if w.extractLsb' 0 12 ≠ 0#12 then .error .unusedField else .ok .finalize

/-- The format Z word of FINALIZE_HEX (case 0x5). -/
def decodeFinalizeHex (w : CmdWord) : Except IllegalWord Instr :=
  if w.extractLsb' 0 12 ≠ 0#12 then .error .unusedField else .ok .finalizeHex

/-- A format CL word (case 0x6). -/
def decodeComputeBuf (w : CmdWord) : Except IllegalWord Instr :=
  if w.extractLsb' 0 9 ≠ 0#9 then .error .unusedField
  else if cfgselField w = 3#2 then .error .reservedCfgsel
  else .ok (.computeBuf (CfgSel.ofBits (cfgselField w)) (LenSel.ofBits (lenselField w)))

/-- A format C word of COMPUTE_SRC (case 0x7). -/
def decodeComputeSrc (w : CmdWord) : Except IllegalWord Instr :=
  if w.extractLsb' 0 10 ≠ 0#10 then .error .unusedField
  else if cfgselField w = 3#2 then .error .reservedCfgsel
  else .ok (.computeSrc (CfgSel.ofBits (cfgselField w)))

/-- The decoder of `30_encoding.md` R62: `op` alone picks the row. -/
def decode (w : CmdWord) : Except IllegalWord Instr :=
  if opField w = 0x1#4 then decodeInit w
  else if opField w = 0x2#4 then decodeUpdb w
  else if opField w = 0x3#4 then decodeUpdate w
  else if opField w = 0x4#4 then decodeFinalize w
  else if opField w = 0x5#4 then decodeFinalizeHex w
  else if opField w = 0x6#4 then decodeComputeBuf w
  else if opField w = 0x7#4 then decodeComputeSrc w
  else .error .reservedOp

/-- The word of a command: the patterns of `30_encoding.md` R55 with the `op` of R56. A term with the reserved `cfgsel`
gets the word that stands for it, which is no command. -/
def encode : Instr → CmdWord
  | .init c => 0x1#4 ++ c.bits ++ 0#10
  | .updb b => 0x2#4 ++ 0#4 ++ b
  | .update l => 0x3#4 ++ 0#2 ++ l.bits ++ 0#9
  | .finalize => 0x4#4 ++ 0#12
  | .finalizeHex => 0x5#4 ++ 0#12
  | .computeBuf c l => 0x6#4 ++ c.bits ++ l.bits ++ 0#9
  | .computeSrc c => 0x7#4 ++ c.bits ++ 0#10

/-- The `match` column of `30_encoding.md` R56. -/
def Instr.rowMatch : Instr → CmdWord
  | .init _ => 0x1000#16
  | .updb _ => 0x2000#16
  | .update _ => 0x3000#16
  | .finalize => 0x4000#16
  | .finalizeHex => 0x5000#16
  | .computeBuf _ _ => 0x6000#16
  | .computeSrc _ => 0x7000#16

/-- The `mask` column of `30_encoding.md` R56. -/
def Instr.rowMask : Instr → CmdWord
  | .init _ => 0xF3FF#16
  | .updb _ => 0xFF00#16
  | .update _ => 0xFDFF#16
  | .finalize => 0xFFFF#16
  | .finalizeHex => 0xFFFF#16
  | .computeBuf _ _ => 0xF1FF#16
  | .computeSrc _ => 0xF3FF#16

/-- The command word made of the low `nbits` bits of `w`, the bits above them 0. A command word is one unit without a
byte order (`20_memory.md` R41), so bit k of the table's number is bit k of the word (log 16). -/
def tableWord (nbits w : Nat) : CmdWord := BitVec.ofNat 16 (w % 2 ^ nbits)

/-- The instruction the decoder reads from a word given as spec/opcode_table.json numbers its bits. -/
def decodeTableWord (nbits w : Nat) : Option Instr :=
  match decode (tableWord nbits w) with
  | .ok i => some i
  | .error _ => none

end Sys2Proof
end

