-- ==== Sys2Proof/Machine/Init.lean ====
section
/-! DEFINITION. INIT (`40_init_table.md` R72). -/

namespace Sys2Proof.Machine

open Sys2Proof

/-- INIT `cfgsel` (`40_init_table.md` R72), allowed in every STATE. The reserved `cfgsel` is ILLEGAL_COMMAND
(`30_encoding.md` R58, log 11). -/
def execInit (c : CfgSel) (s : State) : Host.Outcome State Fault Refusal :=
  .next (
    match s.selectCfg c with
    | none => s.raise (.illegalCommand (encode (.init c)))
    | some cfg =>
      match cfg.check with
      | some cause => s.raise (.invalidArgument cause)
      | none => (s.install cfg).completeOk)

end Sys2Proof.Machine
end

