-- ==== Sys2Proof/Machine/OneShot.lean ====
section
/-! DEFINITION. The one-shot commands COMPUTE_BUF and COMPUTE_SRC (`43_oneshot.md` R96 to R103). -/

namespace Sys2Proof.Machine

open Sys2Proof

/-- The private table of a one-shot command (`43_oneshot.md` R102), at the width of its configuration. -/
def Cfg.entries (c : Cfg) (i : Byte) : BitVec c.width.toNat := lookup (makeTable (narrow c.width.toNat c.poly)) i

/-- The private register's start (`43_oneshot.md` R97). -/
def Cfg.start (c : Cfg) : BitVec c.width.toNat := narrow c.width.toNat c.seed

/-- COMPUTE_BUF `cfgsel`, `lensel` (`43_oneshot.md` R97): configuration checks, length checks, then the bytes of BUF. -/
def execComputeBuf (c : CfgSel) (l : LenSel) (s : State) : Host.Outcome State Fault Refusal :=
  .next (
    match s.selectCfg c with
    | none => s.raise (.illegalCommand (encode (.computeBuf c l)))
    | some cfg =>
      match cfg.check with
      | some cause => s.raiseOneShot (.invalidArgument cause)
      | none =>
        match s.effectiveLength l with
        | .error cause => s.raiseOneShot (.invalidArgument cause)
        | .ok n => (s.storeOneShot cfg (updateBytes cfg.start cfg.entries (s.bufBytes n.toNat))).completeOk)

/-- The named answers are used up once `SrcOpen()` was issued (`20_memory.md` R40, log 6). -/
def State.useSrc (s : State) : State := { s with src := none }

/-- The engine waits for an answer that does not come: no completion record is written (`70_reset_and_hazards.md` R131,
R137; log 7). The next free draw is a new one (log 4). -/
def State.waitForSrc (s : State) : State := { s with engine := .waiting, draws := s.draws + 1 }

/-- COMPUTE_SRC `cfgsel` (`43_oneshot.md` R98): the configuration is checked before the source is touched. -/
def execComputeSrc (c : CfgSel) (s : State) : Host.Outcome State Fault Refusal :=
  .next (
    match s.selectCfg c with
    | none => s.raise (.illegalCommand (encode (.computeSrc c)))
    | some cfg =>
      match cfg.check with
      | some cause => s.raiseOneShot (.invalidArgument cause)
      | none =>
        match srcRun cfg.entries cfg.start s.srcScript with
        | .ended r => (s.useSrc.storeOneShot cfg r).completeOk
        | .failed phase count => s.useSrc.raiseOneShot (.ioFailure phase count)
        | .noAnswer => s.useSrc.waitForSrc)

end Sys2Proof.Machine
end

