-- ==== Sys2Proof/Machine/Update.lean ====
section
/-! DEFINITION. UPDB and UPDATE (`41_update.md` R80, R81). -/

namespace Sys2Proof.Machine

open Sys2Proof

/-- UPDB `imm8` (`41_update.md` R80). -/
def execUpdb (b : Byte) (s : State) : Host.Outcome State Fault Refusal :=
  .next (
    if s.life ≠ .initialized then s.raise (.invalidState s.life)
    else (s.absorb [b]).completeOk)

/-- UPDATE `lensel` (`41_update.md` R81): the state check, then the length checks, then the bytes. -/
def execUpdate (l : LenSel) (s : State) : Host.Outcome State Fault Refusal :=
  .next (
    if s.life ≠ .initialized then s.raise (.invalidState s.life)
    else
      match s.effectiveLength l with
      | .error cause => s.raise (.invalidArgument cause)
      | .ok n => (s.absorb (s.bufBytes n.toNat)).completeOk)

end Sys2Proof.Machine
end

