-- ==== Sys2Proof/Machine/Dispatch.lean ====
section
/-! DEFINITION. One arm per command. -/

namespace Sys2Proof.Machine

open Sys2Proof

/-- The effect of a command on the state (`30_encoding.md` R56, last column). -/
def exec (i : Instr) (s : State) : Host.Outcome State Fault Refusal :=
  match i with
  | .init c => Sys2Proof.Machine.execInit c s
  | .updb b => Sys2Proof.Machine.execUpdb b s
  | .update l => Sys2Proof.Machine.execUpdate l s
  | .finalize => Sys2Proof.Machine.execFinalize s
  | .finalizeHex => Sys2Proof.Machine.execFinalizeHex s
  | .computeBuf c l => Sys2Proof.Machine.execComputeBuf c l s
  | .computeSrc c => Sys2Proof.Machine.execComputeSrc c s

end Sys2Proof.Machine
end

