-- ==== Sys2Proof/Machine/Port.lean ====
section
/-! DEFINITION. The ports: what each host access other than a command does, and what the step finds at the ports
(`20_memory.md` R35 to R41, R49; `70_reset_and_hazards.md` R123, R128). -/

namespace Sys2Proof.Machine

open Sys2Proof

/-- The host's read is answered; a read changes no register (`20_memory.md` R36, R45). The next free draw is a new one
(log 4, log 12). -/
def State.reply (s : State) (r : Reply) : State := { s with replies := s.replies ++ [r], draws := s.draws + 1 }

/-- The state without the oldest host action, once it is taken. -/
def State.pop (s : State) (rest : List HostAction) : State := { s with host := rest }

/-- A host write of one byte of BUF (`20_memory.md` R38). -/
def State.storeByte (s : State) (off : Nat) (b : Byte) : State := { s with buf := s.buf.write off b }

/-- `SRC script`: the answers to the next COMPUTE_SRC (`30_encoding.md` R66). A second `SRC` before a COMPUTE_SRC used the
first replaces it: DESIGN CHOICE, unsafe (log 6), since the spec does not say which of the two answers. -/
def State.nameSrc (s : State) (script : SrcScript) : State := { s with src := some script }

/-- A host access between commands. A reset and a command word are not accesses of this kind: `portsOf` takes them out
first. -/
def hostAccess (a : HostAction) (s : State) : Host.Outcome State Fault Refusal :=
  match a with
  | .cmd _ => .next s
  | .reset => .next s.applyReset
  | .wr r v => .next (s.writeReg r v)
  | .wrUnmapped _ _ => .next s
  | .rd r => .next (s.reply (.reg r (s.readReg r)))
  | .rdUnmapped past => .next (s.reply (.unmapped past (Config.freeReg s.draws (firstUnmapped + past))))
  | .rdTable i => .next (s.reply (.entry i (s.readEntry i)))
  | .wrTable _ _ => .next s
  | .wrBuf off b =>
    if off < s.params.bufCap.toNat then .next (s.storeByte off b)
    else .fault (.bufOffsetOutside off)
  | .rdBuf off =>
    if off < s.params.bufCap.toNat then .next (s.reply (.byte off (s.bufByte off)))
    else .fault (.bufOffsetOutside off)
  | .src script => .next (s.nameSrc script)

/-- What a step finds at the ports. -/
inductive PortEvent where
  /-- nothing to do: the block holds its state -/
  | quiet
  /-- a command word on the command port of an idle engine, and the state without it -/
  | command (word : CmdWord) (rest : State)
  /-- a host access, and the state without it -/
  | access (a : HostAction) (rest : State)
  /-- a host action in the middle of a command -/
  | intrusion

/-- The oldest host action, taken out of the list. A command word and a host access are taken only by an idle engine
(`20_memory.md` R41, `70_reset_and_hazards.md` R128), a reset at any time (R123). -/
def portsOf (s : State) : PortEvent :=
  match s.host with
  | [] => .quiet
  | .reset :: rest => .access .reset (s.pop rest)
  | .cmd w :: rest =>
    match s.engine with
    | .idle => .command w (s.pop rest)
    | .waiting => .intrusion
  | a :: rest =>
    match s.engine with
    | .idle => .access a (s.pop rest)
    | .waiting => .intrusion

/-- A word that is no command completes with ILLEGAL_COMMAND (`30_encoding.md` R61, `60_exceptions.md` R109). -/
def State.illegalWord (s : State) (w : CmdWord) : State := s.raise (.illegalCommand w)

/-- The state with the word where the next step takes its command from: first in the list of host actions, the engine
idle. -/
def State.presentWord (s : State) (w : CmdWord) : State := { s with engine := .idle, host := .cmd w :: s.host }

end Sys2Proof.Machine
end

