-- ==== Sys2Proof/Machine/Step.lean ====
section
/-! DEFINITION. One step: the oldest host action takes effect (`20_memory.md` R48, R49; `70_reset_and_hazards.md` R135). -/

namespace Sys2Proof.Machine

open Sys2Proof

/-- A command word runs as the command it decodes to, or completes with ILLEGAL_COMMAND (`60_exceptions.md` R109). -/
def runWord (w : CmdWord) (s : State) : Host.Outcome State Fault Refusal :=
  match decode w with
  | .ok i => exec i s
  | .error _ => .next (s.illegalWord w)

/-- One step of the machine. With no host action left the block holds its state (`60_exceptions.md` R120,
`70_reset_and_hazards.md` R136; log 14). -/
def step (s : State) : Host.Outcome State Fault Refusal :=
  match portsOf s with
  | .quiet => .next s
  | .command w rest => runWord w rest
  | .access a rest => hostAccess a rest
  | .intrusion => .refused .hostDuringCommand

/-- The state whose next step runs the command word with these bits (log 1, log 16). -/
def State.withFetchWord (s : State) (nbits w : Nat) : State := s.presentWord (tableWord nbits w)

end Sys2Proof.Machine
end

