-- ==== Sys2Proof/Machine/Assembler.lean ====
section
/-! DEFINITION. The assembler's lines and the pseudo-commands (`30_encoding.md` R64, R65) and the host-script actions that
stand for more than one access (`30_encoding.md` R66). A line is a list of characters. Log 18. -/

namespace Sys2Proof.Machine

open Sys2Proof

/-! ### Characters and numbers -/

/-- A capital letter for a small one; operands are case-insensitive (`30_encoding.md` R64). -/
def upperChar (c : Char) : Char := if 'a' ≤ c ∧ c ≤ 'z' then Char.ofNat (c.toNat - 32) else c

/-- The value of a digit below 16. -/
def digitValue (c : Char) : Option Nat :=
  if '0' ≤ c ∧ c ≤ '9' then some (c.toNat - '0'.toNat)
  else if 'A' ≤ upperChar c ∧ upperChar c ≤ 'F' then some ((upperChar c).toNat - 'A'.toNat + 10)
  else none

/-- The digits of a number in a base, most significant first; none where a character is no digit of the base. -/
def digitsValue (base : Nat) : List Char → Nat → Option Nat
  | [], acc => some acc
  | c :: rest, acc =>
    match digitValue c with
    | some d => if d < base then digitsValue base rest (acc * base + d) else none
    | none => none

/-- A decimal or `0x` hexadecimal number. -/
def numberValue : List Char → Option Nat
  | [] => none
  | [c] => digitsValue 10 [c] 0
  | c :: x :: rest =>
    if c = '0' ∧ upperChar x = 'X' then
      match rest with
      | [] => none
      | d :: ds => digitsValue 16 (d :: ds) 0
    else digitsValue 10 (c :: x :: rest) 0

/-! ### Words of a line -/

/-- The line up to its comment. -/
def dropComment : List Char → List Char
  | [] => []
  | c :: rest => if c = ';' then [] else c :: dropComment rest

/-- The words of a line: white space and commas part them, and a comma is a word of its own. -/
def splitWords : List Char → List Char → List (List Char)
  | [], acc => if acc.isEmpty then [] else [acc.reverse]
  | c :: rest, acc =>
    if c = ' ' ∨ c = '\t' then (if acc.isEmpty then [] else [acc.reverse]) ++ splitWords rest []
    else if c = ',' then (if acc.isEmpty then [] else [acc.reverse]) ++ [[',']] ++ splitWords rest []
    else splitWords rest (c :: acc)

/-- The three names of `cfg` (`30_encoding.md` R64). -/
def cfgName (w : List Char) : Option CfgSel :=
  if w.map upperChar = ['A', 'R', 'G'] then some .arg
  else if w.map upperChar = ['S', 'T', 'D', '1', '6'] then some .std16
  else if w.map upperChar = ['S', 'T', 'D', '6', '4'] then some .std64
  else none

/-- The keyword `LEN`. -/
def isLen (w : List Char) : Bool := w.map upperChar = ['L', 'E', 'N']

/-- A byte operand: a number from 0 to 255 (`30_encoding.md` R64). -/
def byteOperand (w : List Char) : Option Byte :=
  match numberValue w with
  | some n => if n ≤ 255 then some (BitVec.ofNat 8 n) else none
  | none => none

/-- The pseudo-commands without an operand (`30_encoding.md` R65). -/
def pseudoName (w : List Char) : Option Instr :=
  if w = "CRC16_BUF".toList then some (.computeBuf .std16 .bufLen)
  else if w = "CRC64_BUF".toList then some (.computeBuf .std64 .bufLen)
  else if w = "CRC16_SRC".toList then some (.computeSrc .std16)
  else if w = "CRC64_SRC".toList then some (.computeSrc .std64)
  else none

/-- The rows of `30_encoding.md` R64 and the pseudo-commands of R65 without an operand. -/
def parseWords : List (List Char) → Option Instr
  | [m] =>
    if m = "UPDATE".toList then some (.update .bufLen)
    else if m = "FINALIZE".toList then some .finalize
    else if m = "FINALIZE_HEX".toList then some .finalizeHex
    else pseudoName m
  | [m, x] =>
    if m = "INIT".toList then (cfgName x).map .init
    else if m = "UPDB".toList then (byteOperand x).map .updb
    else if m = "UPDATE".toList then (if isLen x then some (.update .argLen) else none)
    else if m = "COMPUTE_BUF".toList then (cfgName x).map fun c => .computeBuf c .bufLen
    else if m = "COMPUTE_SRC".toList then (cfgName x).map .computeSrc
    else none
  | [m, x, comma, l] =>
    if m = "COMPUTE_BUF".toList ∧ comma = [','] ∧ isLen l then (cfgName x).map fun c => .computeBuf c .argLen else none
  | _ => none

/-! ### Lines -/

/-- The text of `UPDS "text"` up to its closing quote, and what follows it. -/
def quoted : List Char → Option (List Char × List Char)
  | [] => none
  | c :: rest =>
    if c = '"' then some ([], rest)
    else
      match quoted rest with
      | some (text, after) => some (c :: text, after)
      | none => none

/-- One `UPDB` per character, by its 7-bit ASCII code (`30_encoding.md` R65). -/
def updsInstrs : List Char → Option (List Instr)
  | [] => some []
  | c :: rest =>
    if c.toNat < 128 then (updsInstrs rest).map fun is => .updb (BitVec.ofNat 8 c.toNat) :: is else none

/-- White space dropped from the left. -/
def dropSpace : List Char → List Char
  | [] => []
  | c :: rest => if c = ' ' ∨ c = '\t' then dropSpace rest else c :: rest

/-- The text after `UPDS` and white space, from its opening quote on. -/
def updsText (line : List Char) : Option (List Char) :=
  match dropSpace line with
  | 'U' :: 'P' :: 'D' :: 'S' :: rest =>
    match dropSpace rest with
    | '"' :: text => some text
    | _ => none
  | _ => none

/-- One line to its commands (`30_encoding.md` R64, R65); none where the assembler rejects it. A blank line and a comment
stand for no command. -/
def assembleLine (line : List Char) : Option (List Instr) :=
  match updsText line with
  | some text =>
    match quoted text with
    | some (body, after) => if (splitWords (dropComment after) []).isEmpty then updsInstrs body else none
    | none => none
  | none =>
    match splitWords (dropComment line) [] with
    | [] => some []
    | words => (parseWords words).map fun i => [i]

/-- A program's lines to its command words. -/
def assemble : List (List Char) → Option (List CmdWord)
  | [] => some []
  | line :: rest =>
    match assembleLine line, assemble rest with
    | some is, some ws => some (is.map encode ++ ws)
    | _, _ => none

/-! ### Host scripts (`30_encoding.md` R66) -/

/-- `WRBUF off, b0 b1 ...`: one access per byte (`20_memory.md` R45). -/
def HostAction.wrBufs (off : Nat) : List Byte → List HostAction
  | [] => []
  | b :: rest => .wrBuf off b :: HostAction.wrBufs (off + 1) rest

/-- A command of the script: issue its word (R66). -/
def HostAction.instr (i : Instr) : HostAction := .cmd (encode i)

end Sys2Proof.Machine
end

