-- ==== Sys2Proof/Safety.lean ====
section
/-! DEFINITION. What counts as a good state and a good run, in the terms the statements use: the invariants of the spec
(`10_state.md` R14 to R16, R25; `20_memory.md` R38), the supported configurations (`40_init_table.md` R69), the legal
words (`30_encoding.md` R56) and the bytes the engine reads (`20_memory.md` R39). -/

namespace Sys2Proof.Machine

open Sys2Proof

/-- A container value that fits `w` bits. -/
abbrev Fits (v : Container) (w : BitVec 8) : Prop := v.toNat < 2 ^ w.toNat

/-- The two supported widths (`00_scope.md` R2). -/
abbrev WidthOk (w : BitVec 8) : Prop := w = 16#8 ∨ w = 64#8

/-- A supported configuration: width 16 or 64, polynomial and seed below 2^width (`40_init_table.md` R69). -/
abbrev Cfg.Supported (c : Cfg) : Prop := WidthOk c.width ∧ Fits c.poly c.width ∧ Fits c.seed c.width

/-- The range invariant (`10_state.md` R12, R14). -/
def RangeInv (s : State) : Prop :=
  (s.life ≠ .created → WidthOk s.cfgWidth ∧ Fits s.reg s.cfgWidth ∧ Fits s.cfgPoly s.cfgWidth ∧ Fits s.cfgSeed s.cfgWidth
    ∧ ∀ i, Fits (lookup s.table i) s.cfgWidth) ∧
  (s.life = .finalized → Fits s.digest s.cfgWidth)

/-- TABLE is the table of the configuration whenever STATE is not Created (`10_state.md` R15). -/
def TableInv (s : State) : Prop :=
  s.life ≠ .created → ∀ i, lookup s.table i = widen (lookup (makeTable (narrow s.cfgWidth.toNat s.cfgPoly)) i)

/-- In Finalized DIGEST is REG XOR CFG_SEED (`10_state.md` R16, `42_finalize_serialize.md` R93). -/
def FrozenInv (s : State) : Prop := s.life = .finalized → s.digest = s.reg ^^^ s.cfgSeed

/-- While OVALID is 1 the one-shot result is a value of a supported width (`10_state.md` R19). -/
def OneShotInv (s : State) : Prop := s.ovalid = true → WidthOk s.owidth ∧ Fits s.odigest s.owidth

/-- Bit 0 of ERRLOG is 0, and the bit of the error RESULT shows is set (`10_state.md` R24, R25). -/
def ErrlogInv (s : State) : Prop :=
  s.errlog.getLsbD 0 = false ∧ (s.result ≠ .ok → s.errlog.getLsbD s.result.code.toNat = true)

/-- BUF is in canonical form and holds no byte at an offset of BUFCAP or above (`20_memory.md` R38). -/
def BufInv (s : State) : Prop := s.buf.wf = true ∧ s.buf.below s.params.bufCap.toNat = true

/-- All of them. -/
structure State.Inv (s : State) : Prop where
  range   : RangeInv s
  table   : TableInv s
  frozen  : FrozenInv s
  oneShot : OneShotInv s
  errlog  : ErrlogInv s
  buf     : BufInv s

/-- The engine reads `bytes` at BUF offsets 0 to `bytes.length - 1`: what the host wrote there, and the free value of a
byte it has not written (log 5). -/
def State.BufReads (s : State) (bytes : List Byte) : Prop := ∀ j (h : j < bytes.length), s.bufByte j = bytes[j]

/-- The exhaustive list of the legal command words (`30_encoding.md` R56). -/
def LegalWord (w : CmdWord) : Prop :=
  w ∈ [0x1000#16, 0x1400#16, 0x1800#16, 0x3000#16, 0x3200#16, 0x4000#16, 0x5000#16, 0x6000#16, 0x6200#16, 0x6400#16,
    0x6600#16, 0x6800#16, 0x6A00#16, 0x7000#16, 0x7400#16, 0x7800#16] ∨
  ∃ b : Byte, w = 0x2000#16 + b.setWidth 16

/-- Commands one after the other, each from the state the one before left (`20_memory.md` R48). -/
def runInstrs : List Instr → State → Host.Outcome State Fault Refusal
  | [], s => .next s
  | i :: rest, s =>
    match exec i s with
    | .next t => runInstrs rest t
    | .fault r => .fault r
    | .refused r => .refused r

end Sys2Proof.Machine
end

