-- ==== Sys2Proof/Certificates/Slice0/Obligations.lean ====
section
/-! DEFINITION. The statements, from the numbered rules of the spec. A free value (log 4) is one statement's `Config.free…`
term: it holds for every value of the counter `draws`. Next states are written out, so a statement of a result is also the
frame: every field that is not named is unchanged. -/

open Sys2Proof Sys2Proof.Machine

/-! ### Encoding -/

/-- `30_encoding.md` R54 to R62: no bit of an encoding is dropped. -/
def Obligations.DecodeReadsBackEncode : Prop :=
  ∀ i : Instr, i.wellFormed = true → decode (encode i) = .ok i

/-- `30_encoding.md` R57, R61: no bit of a word is ignored, and only well-formed commands are decoded. -/
def Obligations.EncodeReadsBackDecode : Prop :=
  ∀ (w : CmdWord) (i : Instr), decode w = .ok i → i.wellFormed = true ∧ encode i = w

/-- `30_encoding.md` R56: each row's match, mask and field constraint, the exhaustive list of the legal words with the
command each stands for, and what a word does: its row's semantics, or ILLEGAL_COMMAND. -/
def Obligations.OpcodeMapSelectsTheCommand : Prop :=
  ∀ w : CmdWord,
    ((∃ c, decode w = .ok (.init c)) ↔ w &&& 0xF3FF#16 = 0x1000#16 ∧ w.extractLsb' 10 2 ≠ 3#2) ∧
    ((∃ b, decode w = .ok (.updb b)) ↔ w &&& 0xFF00#16 = 0x2000#16) ∧
    ((∃ l, decode w = .ok (.update l)) ↔ w &&& 0xFDFF#16 = 0x3000#16) ∧
    (decode w = .ok .finalize ↔ w &&& 0xFFFF#16 = 0x4000#16) ∧
    (decode w = .ok .finalizeHex ↔ w &&& 0xFFFF#16 = 0x5000#16) ∧
    ((∃ c l, decode w = .ok (.computeBuf c l)) ↔ w &&& 0xF1FF#16 = 0x6000#16 ∧ w.extractLsb' 10 2 ≠ 3#2) ∧
    ((∃ c, decode w = .ok (.computeSrc c)) ↔ w &&& 0xF3FF#16 = 0x7000#16 ∧ w.extractLsb' 10 2 ≠ 3#2) ∧
    ((∃ i, decode w = .ok i) ↔ LegalWord w) ∧
    (∀ s i, decode w = .ok i → runWord w s = exec i s) ∧
    (∀ s, ¬ LegalWord w → runWord w s = .next (s.raise (.illegalCommand w))) ∧
    (∀ b : Byte, decode (0x2000#16 + b.setWidth 16) = .ok (.updb b)) ∧
    [0x1000#16, 0x1400#16, 0x1800#16].map decode = [.ok (.init .arg), .ok (.init .std16), .ok (.init .std64)] ∧
    [0x3000#16, 0x3200#16, 0x4000#16, 0x5000#16].map decode =
      [.ok (.update .bufLen), .ok (.update .argLen), .ok .finalize, .ok .finalizeHex] ∧
    [0x6000#16, 0x6200#16, 0x6400#16, 0x6600#16, 0x6800#16, 0x6A00#16].map decode =
      [.ok (.computeBuf .arg .bufLen), .ok (.computeBuf .arg .argLen), .ok (.computeBuf .std16 .bufLen),
        .ok (.computeBuf .std16 .argLen), .ok (.computeBuf .std64 .bufLen), .ok (.computeBuf .std64 .argLen)] ∧
    [0x7000#16, 0x7400#16, 0x7800#16].map decode =
      [.ok (.computeSrc .arg), .ok (.computeSrc .std16), .ok (.computeSrc .std64)]

/-- Words written out from `30_encoding.md` R54 to R59 and `95_test_vectors.md` X81. -/
def Obligations.SampleWordsDecode : Prop :=
  decode 0x1400#16 = .ok (.init .std16) ∧ decode 0x2031#16 = .ok (.updb 0x31#8) ∧
  decode 0x3200#16 = .ok (.update .argLen) ∧ decode 0x4000#16 = .ok .finalize ∧
  decode 0x5000#16 = .ok .finalizeHex ∧ decode 0x6A00#16 = .ok (.computeBuf .std64 .argLen) ∧
  decode 0x7800#16 = .ok (.computeSrc .std64) ∧ decode 0x1C00#16 = .error .reservedCfgsel ∧
  decode 0x2131#16 = .error .unusedField ∧ decode 0x8000#16 = .error .reservedOp

/-- `30_encoding.md` R61, `60_exceptions.md` R109: a word that is no command, in every STATE. -/
def Obligations.IllegalWordChangesOnlyTheRecord : Prop :=
  (∀ (s : State) (w : CmdWord), ¬ LegalWord w →
    runWord w s = .next { s with
      result := .illegalCommand, errlog := s.errlog ||| 0b10000#5, errinfo := w.setWidth 64, draws := s.draws + 1 }) ∧
  ¬ LegalWord 0x0000#16 ∧ ¬ LegalWord 0xFFFF#16

/-- A step of an idle engine takes the oldest word, runs the command it decodes to, and completes any other word with
ILLEGAL_COMMAND (`20_memory.md` R41, R48; `30_encoding.md` R61). -/
def Obligations.StepRunsTheDecodedCommand : Prop :=
  ∀ (s : State) (w : CmdWord) (rest : List HostAction), s.engine = .idle → s.host = .cmd w :: rest →
    step s = runWord w { s with host := rest } ∧
    (∀ i, decode w = .ok i → step s = exec i { s with host := rest }) ∧
    ((∀ i, decode w ≠ .ok i) → step s = .next { s with
      host := rest, result := .illegalCommand, errlog := s.errlog ||| 0b10000#5, errinfo := w.setWidth 64,
      draws := s.draws + 1 })

/-! ### Reset -/

/-- `10_state.md` R33 and `70_reset_and_hazards.md` R123: the stated values, an idle engine, and everything else holds no
value. That a read of a TABLE entry then gives a free value is the model's choice among those of R34 (log 4). -/
def Obligations.ResetLeavesTheStatedValues : Prop :=
  ∀ p : Params,
    (State.resetFor p).life = .created ∧ (State.resetFor p).result = .ok ∧ (State.resetFor p).errlog = 0 ∧
    (State.resetFor p).errinfo = 0 ∧ (State.resetFor p).ovalid = false ∧ (State.resetFor p).bufLen = 0 ∧
    (State.resetFor p).engine = .idle ∧
    (∀ r : Reg, (State.resetFor p).holds r = true ↔
      r ∈ [Reg.state, .result, .errlog, .errinfo, .ovalid, .bufLen]) ∧
    (∀ i : Byte, (State.resetFor p).readEntry i = Config.freeEntry (State.resetFor p).draws i.toNat) ∧
    (∀ off : Nat, (State.resetFor p).buf.read off = none)

/-- The invariant holds after reset, for all parameters. -/
def Obligations.ResetMeetsTheInvariant : Prop := (∀ p : Params, (State.resetFor p).Inv) ∧ State.reset.Inv

/-- `70_reset_and_hazards.md` R123, R125, R137: reset acts at any time, a COMPUTE_SRC that waits included, and leaves the
engine idle; the parameters stay, and so do the outside world's answers and actions (the model's choice, log 13). -/
def Obligations.ResetActsAtAnyTime : Prop :=
  ∀ (s : State) (rest : List HostAction), s.host = .reset :: rest →
    ∃ t, step s = .next t ∧ t.engine = .idle ∧
      t = { State.resetFor s.params with host := rest, src := s.src, replies := s.replies, draws := s.draws }

/-! ### The data path -/

/-- `40_init_table.md` R70 (a) to (e). -/
def Obligations.TableEntriesOfEveryPolynomial : Prop :=
  (∀ W : Nat, W = 16 ∨ W = 64 → ∀ poly : BitVec W,
    lookup (makeTable poly) 0 = 0 ∧ lookup (makeTable poly) 128 = poly ∧
    (∀ i, (lookup (makeTable poly) i).toNat < 2 ^ W) ∧
    ∀ a b : Byte, lookup (makeTable poly) (a ^^^ b) = lookup (makeTable poly) a ^^^ lookup (makeTable poly) b) ∧
  ∀ (poly : BitVec 16) (i : Byte),
    (lookup (makeTable (poly.setWidth 64)) i).toNat = (lookup (makeTable poly) i).toNat

/-- `95_test_vectors.md` Q2: the table-driven update is the bit-serial one, for any input. -/
def Obligations.TableDrivenUpdateIsBitSerial : Prop :=
  ∀ W : Nat, W = 16 ∨ W = 64 → ∀ (poly reg : BitVec W) (bytes : List Byte),
    updateBytes reg (lookup (makeTable poly)) bytes =
      bytes.foldl (fun r b => shiftSteps poly 8 (r ^^^ b.setWidth W)) reg

/-- `41_update.md` R77 and `42_finalize_serialize.md` R85, on numbers. -/
def Obligations.UpdateByteAndFinalizeFormulas : Prop :=
  (∀ (W : Nat) (reg : BitVec W) (table : Byte → BitVec W) (b : Byte),
    (updateByte reg table b).toNat =
      reg.toNat / 256 ^^^ (table (BitVec.ofNat 8 (b.toNat ^^^ reg.toNat % 256))).toNat) ∧
  ∀ (W : Nat) (reg seed : BitVec W),
    (finalizeValue reg seed).toNat = reg.toNat ^^^ seed.toNat ∧ finalizeValue (finalizeValue reg seed) seed = reg

/-- `41_update.md` R78: left to right over every byte, streamable, and sensitive to the order. -/
def Obligations.UpdateBytesStreams : Prop :=
  (∀ (W : Nat) (reg : BitVec W) (table : Byte → BitVec W), updateBytes reg table [] = reg) ∧
  (∀ (W : Nat) (reg : BitVec W) (table : Byte → BitVec W) (b : Byte) (rest : List Byte),
    updateBytes reg table ([b] ++ rest) = updateBytes (updateByte reg table b) table rest) ∧
  (∀ (W : Nat) (reg : BitVec W) (table : Byte → BitVec W) (A B : List Byte),
    updateBytes reg table (A ++ B) = updateBytes (updateBytes reg table A) table B) ∧
  ∃ (reg : BitVec 16) (a b : Byte),
    updateBytes reg (lookup (makeTable 0xA001#16)) [a, b] ≠ updateBytes reg (lookup (makeTable 0xA001#16)) [b, a]

/-- `10_state.md` R14, `41_update.md` R79: the 64-bit containers stay in range and agree with the `W`-bit values. -/
def Obligations.ContainersAgreeWithTheWidth : Prop :=
  ∀ (w : BitVec 8) (reg : Container) (table : Byte → Container) (bytes : List Byte),
    WidthOk w → Fits reg w → (∀ i, Fits (table i) w) →
      Fits (updateBytes reg table bytes) w ∧
      widen (updateBytes (narrow w.toNat reg) (fun i => narrow w.toNat (table i)) bytes) = updateBytes reg table bytes

/-- `95_test_vectors.md` Q10: the LSB_FIRST bytes of its own digest after any message leave a register that does not
depend on the message, 0 when the seed is 0, and the spec's constant for the CRC-64 preset. -/
def Obligations.AppendedDigestLeavesAConstant : Prop :=
  (∀ W : Nat, W = 16 ∨ W = 64 → ∀ (poly seed start : BitVec W) (message : List Byte),
    let digest := finalizeValue (updateBytes start (lookup (makeTable poly)) message) seed
    updateBytes start (lookup (makeTable poly)) (message ++ serBytes (widen digest) W .lsbFirst) =
        updateBytes 0 (lookup (makeTable poly)) (serBytes (widen seed) W .lsbFirst) ∧
      (seed = 0 → updateBytes start (lookup (makeTable poly)) (message ++ serBytes (widen digest) W .lsbFirst) = 0)) ∧
  updateBytes 0#64 (lookup (makeTable 0xC96C5795D7870F42#64)) (serBytes 0xFFFFFFFFFFFFFFFF#64 64 .lsbFirst) =
    0x49958C9ABD7D353F#64

/-! ### Operands -/

/-- `40_init_table.md` R68: the three triples; an ARG register that holds a value is read as it stands. R68 says that
`cfgsel = 3` never reaches the function; that it selects nothing is the model's reading (log 11). -/
def Obligations.SelectedConfigurationIsTheNamedOne : Prop :=
  ∀ s : State,
    (s.argWidthHeld = true → s.argPolyHeld = true → s.argSeedHeld = true →
      s.selectCfg .arg = some { width := s.argWidth, poly := s.argPoly, seed := s.argSeed }) ∧
    s.selectCfg .std16 = some { width := 16#8, poly := 0xA001#64, seed := 0x0000#64 } ∧
    s.selectCfg .std64 = some { width := 64#8, poly := 0xC96C5795D7870F42#64, seed := 0xFFFFFFFFFFFFFFFF#64 } ∧
    s.selectCfg .reserved = none

/-- `40_init_table.md` R69: the three checks in their order and their sub-causes; both presets pass; at width 64 only the
first can fail. -/
def Obligations.ConfigurationChecksInOrder : Prop :=
  (∀ c : Cfg,
    (¬ WidthOk c.width → c.check = some .width) ∧
    (WidthOk c.width → 2 ^ c.width.toNat ≤ c.poly.toNat → c.check = some .poly) ∧
    (WidthOk c.width → c.poly.toNat < 2 ^ c.width.toNat → 2 ^ c.width.toNat ≤ c.seed.toNat → c.check = some .seed) ∧
    (WidthOk c.width → c.poly.toNat < 2 ^ c.width.toNat → c.seed.toNat < 2 ^ c.width.toNat → c.check = none) ∧
    (c.width = 64#8 → c.check = none)) ∧
  ArgCause.width.code = 1#4 ∧ ArgCause.poly.code = 2#4 ∧ ArgCause.seed.code = 3#4 ∧
  Cfg.std16.check = none ∧ Cfg.std64.check = none

/-- `41_update.md` R82: the two length checks in their order and their sub-causes, without a look at the buffer's
bytes. -/
def Obligations.EffectiveLengthChecksInOrder : Prop :=
  ArgCause.bufCap.code = 4#4 ∧ ArgCause.length.code = 5#4 ∧
  ∀ (s : State) (l : LenSel),
    (s.params.bufCap < s.bufLen → s.effectiveLength l = .error .bufCap) ∧
    (s.bufLen ≤ s.params.bufCap → s.effectiveLength .bufLen = .ok s.bufLen) ∧
    (s.bufLen ≤ s.params.bufCap → s.argLenHeld = true → s.bufLen < s.argLen →
      s.effectiveLength .argLen = .error .length) ∧
    (s.bufLen ≤ s.params.bufCap → s.argLenHeld = true → s.argLen ≤ s.bufLen →
      s.effectiveLength .argLen = .ok s.argLen) ∧
    ∀ m : Memory, ({ s with buf := m } : State).effectiveLength l = s.effectiveLength l

/-! ### Serialization -/

/-- `42_finalize_serialize.md` R87. -/
def Obligations.SerBytesPlacesEveryByte : Prop :=
  ∀ (v : Container) (W : Nat), W = 16 ∨ W = 64 →
    (∀ order, (serBytes v W order).length = W / 8) ∧
    (∀ k, k < W / 8 → (serBytes v W .lsbFirst)[k]? = some (v.extractLsb' (8 * k) 8)) ∧
    (∀ k, k < W / 8 → (serBytes v W .msbFirst)[k]? = some (v.extractLsb' (8 * (W / 8 - 1 - k)) 8)) ∧
    serBytes v W .msbFirst = (serBytes v W .lsbFirst).reverse

/-- `42_finalize_serialize.md` R88, R89: two lowercase digits a byte, the high nibble first, and their codes. -/
def Obligations.SerHexWritesTwoDigitsPerByte : Prop :=
  (∀ d : BitVec 4, "0123456789abcdef".toList[d.toNat]? = some (hexChar d) ∧
    (d.toNat ≤ 9 → hexCode d = BitVec.ofNat 8 (0x30 + d.toNat)) ∧
    (10 ≤ d.toNat → hexCode d = BitVec.ofNat 8 (0x61 + (d.toNat - 10)))) ∧
  ∀ bytes : List Byte,
    (serHex bytes).length = 2 * bytes.length ∧
    (∀ k b, bytes[k]? = some b →
      (serHex bytes)[2 * k]? = some (hexChar (b.extractLsb' 4 4)) ∧
      (serHex bytes)[2 * k + 1]? = some (hexChar (b.extractLsb' 0 4))) ∧
    serHexCodes bytes = (serHex bytes).map fun c => BitVec.ofNat 8 c.toNat

/-- `10_state.md` R17: OUT_BYTES in Finalized. Otherwise it holds no value, and that a read then gives a free value is the
model's choice among those of R34 (log 4). -/
def Obligations.OutBytesPacksTheDigest : Prop :=
  ∀ s : State,
    (s.life = .finalized → WidthOk s.cfgWidth →
      (∀ k b, (serBytes s.digest s.cfgWidth.toNat s.params.byteOrder)[k]? = some b →
        BitVec.extractLsb' (8 * k) 8 (s.readReg .outBytes) = b) ∧
      BitVec.toNat (s.readReg .outBytes) < 2 ^ s.cfgWidth.toNat) ∧
    (s.life ≠ .finalized → s.readReg .outBytes = (Config.freeReg s.draws 0x09).setWidth 64)

/-- `10_state.md` R18: OUT_HEX in Finalized, with ASCII codes (log 17). Otherwise it holds no value, and that a read then
gives a free value is the model's choice among those of R34 (log 4). -/
def Obligations.OutHexPacksTheDigits : Prop :=
  ∀ s : State,
    (s.life = .finalized → WidthOk s.cfgWidth →
      (∀ k c, (serHex (serBytes s.digest s.cfgWidth.toNat s.params.byteOrder))[k]? = some c →
        BitVec.extractLsb' (8 * k) 8 (s.readReg .outHex) = BitVec.ofNat 8 c.toNat) ∧
      BitVec.toNat (s.readReg .outHex) < 2 ^ (2 * s.cfgWidth.toNat)) ∧
    (s.life ≠ .finalized → s.readReg .outHex = Config.freeReg s.draws 0x0A)

/-- `10_state.md` R20: OOUT_BYTES and OOUT_HEX are built from ODIGEST and OWIDTH as OUT_BYTES and OUT_HEX are from DIGEST
and CFG_WIDTH, while OVALID is 1. Otherwise they hold no value, and that a read then gives a free value is the model's
choice among those of R34 (log 4). -/
def Obligations.OneShotViewsAreBuiltAlike : Prop :=
  ∀ s : State,
    (s.ovalid = true →
      s.readReg .ooutBytes =
        ({ s with life := .finalized, digest := s.odigest, cfgWidth := s.owidth } : State).readReg .outBytes ∧
      s.readReg .ooutHex =
        ({ s with life := .finalized, digest := s.odigest, cfgWidth := s.owidth } : State).readReg .outHex) ∧
    (s.ovalid = false →
      s.readReg .ooutBytes = (Config.freeReg s.draws 0x0E).setWidth 64 ∧
      s.readReg .ooutHex = Config.freeReg s.draws 0x0F)

/-- `20_memory.md` R43, `95_test_vectors.md` Q8: with LSB_FIRST the byte view is the digest itself, with MSB_FIRST its
bytes reversed, and with either order the string determines the digest. -/
def Obligations.ViewsOfTheTwoByteOrders : Prop :=
  ∀ (w : BitVec 8) (v : Container), WidthOk w → Fits v w →
    bytesView v w .lsbFirst = v ∧
    (∀ k, k < w.toNat / 8 →
      (bytesView v w .msbFirst).extractLsb' (8 * k) 8 = v.extractLsb' (8 * (w.toNat / 8 - 1 - k)) 8) ∧
    ∀ (u : Container) (order : ByteOrder), Fits u w → hexView u w order = hexView v w order → u = v

/-! ### The commands -/

/-- `40_init_table.md` R72: INIT in every STATE, with a supported configuration and with one that fails a check. -/
def Obligations.InitInstallsOrRejects : Prop :=
  decode 0x1000#16 = .ok (.init .arg) ∧ decode 0x1400#16 = .ok (.init .std16) ∧
  decode 0x1800#16 = .ok (.init .std64) ∧
  ∀ (s : State) (c : CfgSel) (cfg : Cfg), s.selectCfg c = some cfg →
    (cfg.Supported → ∃ t, exec (.init c) s = .next t ∧
      t = { s with
        life := .initialized, cfgWidth := cfg.width, cfgPoly := cfg.poly, cfgSeed := cfg.seed, reg := cfg.seed,
        table := t.table, result := .ok, draws := s.draws + 1 } ∧
      (∀ i, lookup t.table i = widen (lookup (makeTable (narrow cfg.width.toNat cfg.poly)) i)) ∧
      t.holds .digest = false ∧ t.holds .outBytes = false ∧ t.holds .outHex = false) ∧
    ∀ cause, cfg.check = some cause →
      (cause = .width ∨ cause = .poly ∨ cause = .seed) ∧
      exec (.init c) s = .next { s with
        result := .invalidArgument, errlog := s.errlog ||| 0b00010#5, errinfo := cause.code.setWidth 64,
        draws := s.draws + 1 }

/-- `41_update.md` R80: UPDB in Initialized, and its rejection in Created and Finalized. -/
def Obligations.UpdbFoldsOneByte : Prop :=
  ∀ (s : State) (b : Byte),
    decode (0x2000#16 + b.setWidth 16) = .ok (.updb b) ∧
    (s.life = .initialized → exec (.updb b) s = .next { s with
      reg := widen (updateByte (narrow s.cfgWidth.toNat s.reg)
        (fun i => narrow s.cfgWidth.toNat (lookup s.table i)) b),
      result := .ok, draws := s.draws + 1 }) ∧
    (s.life ≠ .initialized → exec (.updb b) s = .next { s with
      result := .invalidState, errlog := s.errlog ||| 0b00100#5, errinfo := s.life.code.setWidth 64,
      draws := s.draws + 1 })

/-- `41_update.md` R81: UPDATE over the first n bytes of BUF, and its errors in their order. -/
def Obligations.UpdateFoldsTheBuffer : Prop :=
  decode 0x3000#16 = .ok (.update .bufLen) ∧ decode 0x3200#16 = .ok (.update .argLen) ∧
  ∀ (s : State) (l : LenSel),
    (s.life = .initialized → s.bufLen ≤ s.params.bufCap → s.length l ≤ s.bufLen →
      exec (.update l) s = .next { s with
        reg := widen (updateBytes (narrow s.cfgWidth.toNat s.reg)
          (fun i => narrow s.cfgWidth.toNat (lookup s.table i))
          ((List.range (s.length l).toNat).map fun j => s.bufByte j)),
        result := .ok, draws := s.draws + 1 }) ∧
    (s.life ≠ .initialized → exec (.update l) s = .next { s with
      result := .invalidState, errlog := s.errlog ||| 0b00100#5, errinfo := s.life.code.setWidth 64,
      draws := s.draws + 1 }) ∧
    (s.life = .initialized → s.params.bufCap < s.bufLen → exec (.update l) s = .next { s with
      result := .invalidArgument, errlog := s.errlog ||| 0b00010#5, errinfo := 4#64, draws := s.draws + 1 }) ∧
    (s.life = .initialized → s.bufLen ≤ s.params.bufCap → s.bufLen < s.length l →
      exec (.update l) s = .next { s with
        result := .invalidArgument, errlog := s.errlog ||| 0b00010#5, errinfo := 5#64, draws := s.draws + 1 })

/-- `42_finalize_serialize.md` R90: FINALIZE writes DIGEST and STATE in Initialized and is rejected elsewhere. -/
def Obligations.FinalizeFreezesTheDigest : Prop :=
  decode 0x4000#16 = .ok .finalize ∧
  ∀ s : State,
    (s.life = .initialized → WidthOk s.cfgWidth → Fits s.reg s.cfgWidth → Fits s.cfgSeed s.cfgWidth →
      exec .finalize s = .next { s with
        life := .finalized, digest := s.reg ^^^ s.cfgSeed, result := .ok, draws := s.draws + 1 }) ∧
    (s.life ≠ .initialized → exec .finalize s = .next { s with
      result := .invalidState, errlog := s.errlog ||| 0b00100#5, errinfo := s.life.code.setWidth 64,
      draws := s.draws + 1 })

/-- `42_finalize_serialize.md` R91: FINALIZE_HEX finalizes once and re-reads afterwards. -/
def Obligations.FinalizeHexFinalizesOnce : Prop :=
  decode 0x5000#16 = .ok .finalizeHex ∧
  ∀ s : State,
    (s.life = .initialized → WidthOk s.cfgWidth → Fits s.reg s.cfgWidth → Fits s.cfgSeed s.cfgWidth →
      exec .finalizeHex s = .next { s with
        life := .finalized, digest := s.reg ^^^ s.cfgSeed, result := .ok, draws := s.draws + 1 }) ∧
    (s.life = .finalized → exec .finalizeHex s = .next { s with result := .ok, draws := s.draws + 1 }) ∧
    (s.life = .created → exec .finalizeHex s = .next { s with
      result := .invalidState, errlog := s.errlog ||| 0b00100#5, errinfo := 0#64, draws := s.draws + 1 })

/-- `43_oneshot.md` R97: COMPUTE_BUF in every STATE, its result and its errors in their order. -/
def Obligations.ComputeBufStoresTheResult : Prop :=
  [0x6000#16, 0x6200#16, 0x6400#16, 0x6600#16, 0x6800#16, 0x6A00#16].map decode =
    [.ok (.computeBuf .arg .bufLen), .ok (.computeBuf .arg .argLen), .ok (.computeBuf .std16 .bufLen),
      .ok (.computeBuf .std16 .argLen), .ok (.computeBuf .std64 .bufLen), .ok (.computeBuf .std64 .argLen)] ∧
  ∀ (s : State) (c : CfgSel) (l : LenSel) (cfg : Cfg), s.selectCfg c = some cfg →
    (cfg.Supported → s.bufLen ≤ s.params.bufCap → s.length l ≤ s.bufLen →
      exec (.computeBuf c l) s = .next { s with
        odigest := widen (finalizeValue
          (updateBytes (narrow cfg.width.toNat cfg.seed) (lookup (makeTable (narrow cfg.width.toNat cfg.poly)))
            ((List.range (s.length l).toNat).map fun j => s.bufByte j))
          (narrow cfg.width.toNat cfg.seed)),
        owidth := cfg.width, ovalid := true, result := .ok, draws := s.draws + 1 }) ∧
    (∀ cause, cfg.check = some cause → exec (.computeBuf c l) s = .next { s with
      ovalid := false, result := .invalidArgument, errlog := s.errlog ||| 0b00010#5,
      errinfo := cause.code.setWidth 64, draws := s.draws + 1 }) ∧
    (cfg.Supported → s.params.bufCap < s.bufLen → exec (.computeBuf c l) s = .next { s with
      ovalid := false, result := .invalidArgument, errlog := s.errlog ||| 0b00010#5, errinfo := 4#64,
      draws := s.draws + 1 }) ∧
    (cfg.Supported → s.bufLen ≤ s.params.bufCap → s.bufLen < s.length l →
      exec (.computeBuf c l) s = .next { s with
        ovalid := false, result := .invalidArgument, errlog := s.errlog ||| 0b00010#5, errinfo := 5#64,
        draws := s.draws + 1 })

/-- `43_oneshot.md` R98: COMPUTE_SRC in every STATE, its result and its errors in their order. -/
def Obligations.ComputeSrcStoresTheResult : Prop :=
  [0x7000#16, 0x7400#16, 0x7800#16].map decode =
    [.ok (.computeSrc .arg), .ok (.computeSrc .std16), .ok (.computeSrc .std64)] ∧
  ∀ (s : State) (c : CfgSel) (cfg : Cfg), s.selectCfg c = some cfg →
    (cfg.Supported → ∀ bytes, s.srcScript = .opened bytes .eof →
      exec (.computeSrc c) s = .next { s with
        odigest := widen (finalizeValue
          (updateBytes (narrow cfg.width.toNat cfg.seed) (lookup (makeTable (narrow cfg.width.toNat cfg.poly))) bytes)
          (narrow cfg.width.toNat cfg.seed)),
        owidth := cfg.width, ovalid := true, src := none, result := .ok, draws := s.draws + 1 }) ∧
    (∀ cause, cfg.check = some cause → exec (.computeSrc c) s = .next { s with
      ovalid := false, result := .invalidArgument, errlog := s.errlog ||| 0b00010#5,
      errinfo := cause.code.setWidth 64, draws := s.draws + 1 }) ∧
    (cfg.Supported → s.srcScript = .openFail → exec (.computeSrc c) s = .next { s with
      ovalid := false, src := none, result := .ioFailure, errlog := s.errlog ||| 0b01000#5, errinfo := 0#64,
      draws := s.draws + 1 }) ∧
    (cfg.Supported → ∀ bytes, s.srcScript = .opened bytes .fail → exec (.computeSrc c) s = .next { s with
      ovalid := false, src := none, result := .ioFailure, errlog := s.errlog ||| 0b01000#5,
      errinfo := 1#1 ++ BitVec.ofNat 63 (min bytes.length (2 ^ 63 - 1)), draws := s.draws + 1 })

/-- `43_oneshot.md` R103, `70_reset_and_hazards.md` R131: a COMPUTE_SRC whose source does not answer writes no completion
record and leaves the engine waiting (the waiting engine is the model's shape of it, log 7). -/
def Obligations.UnansweredSourceLeavesTheEngineWaiting : Prop :=
  ∀ (s : State) (c : CfgSel) (cfg : Cfg), s.selectCfg c = some cfg → cfg.Supported →
    (s.srcScript = .silent ∨ ∃ bytes, s.srcScript = .opened bytes .silent) →
      exec (.computeSrc c) s = .next { s with engine := .waiting, src := none, draws := s.draws + 1 }

/-- `30_encoding.md` R58, R61: `cfgsel` 3 is ILLEGAL_COMMAND with its word; the decoder never yields such a term, and its
meaning is the model's reading (log 11). -/
def Obligations.ReservedSelectorIsIllegal : Prop :=
  ∀ s : State,
    exec (.init .reserved) s = .next { s with
      result := .illegalCommand, errlog := s.errlog ||| 0b10000#5, errinfo := 0x1C00#64, draws := s.draws + 1 } ∧
    exec (.computeBuf .reserved .bufLen) s = .next { s with
      result := .illegalCommand, errlog := s.errlog ||| 0b10000#5, errinfo := 0x6C00#64, draws := s.draws + 1 } ∧
    exec (.computeBuf .reserved .argLen) s = .next { s with
      result := .illegalCommand, errlog := s.errlog ||| 0b10000#5, errinfo := 0x6E00#64, draws := s.draws + 1 } ∧
    exec (.computeSrc .reserved) s = .next { s with
      result := .illegalCommand, errlog := s.errlog ||| 0b10000#5, errinfo := 0x7C00#64, draws := s.draws + 1 }

/-- `60_exceptions.md` R107, R111: INVALID_STATE exactly where the matrix says so. -/
def Obligations.InvalidStateFollowsTheMatrix : Prop :=
  ∀ (i : Instr) (s t : State), s.engine = .idle → exec i s = .next t → t.engine = .idle →
    (t.result = .invalidState ↔
      match i with
      | .updb _ => s.life = .created ∨ s.life = .finalized
      | .update _ => s.life = .created ∨ s.life = .finalized
      | .finalize => s.life = .created ∨ s.life = .finalized
      | .finalizeHex => s.life = .created
      | .init _ => False
      | .computeBuf _ _ => False
      | .computeSrc _ => False) ∧
    (t.result = .invalidState → t.errinfo = s.life.code.setWidth 64 ∧ t.life = s.life)

/-- `60_exceptions.md` R110: decode, then state, then arguments (1, 2, 3, then 4, then 5), then the source. -/
def Obligations.FirstErrorInOrderIsReported : Prop :=
  ∀ s : State,
    (∀ w t, ¬ LegalWord w → runWord w s = .next t → t.result = .illegalCommand) ∧
    (∀ l t, s.life ≠ .initialized → exec (.update l) s = .next t → t.result = .invalidState) ∧
    (∀ l t, s.life = .initialized → exec (.update l) s = .next t →
      (s.params.bufCap < s.bufLen → t.result = .invalidArgument ∧ t.errinfo = 4#64) ∧
      (s.bufLen ≤ s.params.bufCap → s.bufLen < s.length l → t.result = .invalidArgument ∧ t.errinfo = 5#64)) ∧
    (∀ i c cfg t, s.selectCfg c = some cfg → (i = .init c ∨ (∃ l, i = .computeBuf c l) ∨ i = .computeSrc c) →
      exec i s = .next t →
      (¬ WidthOk cfg.width → t.result = .invalidArgument ∧ t.errinfo = 1#64 ∧ t.src = s.src) ∧
      (WidthOk cfg.width → ¬ Fits cfg.poly cfg.width →
        t.result = .invalidArgument ∧ t.errinfo = 2#64 ∧ t.src = s.src) ∧
      (WidthOk cfg.width → Fits cfg.poly cfg.width → ¬ Fits cfg.seed cfg.width →
        t.result = .invalidArgument ∧ t.errinfo = 3#64 ∧ t.src = s.src)) ∧
    (∀ c l cfg t, s.selectCfg c = some cfg → cfg.Supported → exec (.computeBuf c l) s = .next t →
      (s.params.bufCap < s.bufLen → t.result = .invalidArgument ∧ t.errinfo = 4#64) ∧
      (s.bufLen ≤ s.params.bufCap → s.bufLen < s.length l → t.result = .invalidArgument ∧ t.errinfo = 5#64)) ∧
    (∀ i t, s.engine = .idle → exec i s = .next t → t.engine = .idle → t.result = .ioFailure →
      ∃ c cfg, i = .computeSrc c ∧ s.selectCfg c = some cfg ∧ cfg.Supported)

/-- `60_exceptions.md` R113: a failing command leaves everything but the completion record, and a failed one-shot command
clears OVALID. The script of the source is the environment's (`20_memory.md` R40). -/
def Obligations.FailingCommandKeepsTheRest : Prop :=
  ∀ (i : Instr) (s t : State), s.engine = .idle → exec i s = .next t → t.engine = .idle → t.result ≠ .ok →
    t = { s with
      result := t.result, errlog := s.errlog ||| (1#5 <<< t.result.code.toNat), errinfo := t.errinfo,
      ovalid := (if i.isOneShot = true ∧ t.result ≠ .illegalCommand then false else s.ovalid),
      src := t.src, draws := s.draws + 1 }

/-- `60_exceptions.md` R112: what the completion of any word writes to RESULT, ERRLOG and ERRINFO. -/
def Obligations.CompletionRecordIsWritten : Prop :=
  ∀ (w : CmdWord) (s t : State), s.engine = .idle → runWord w s = .next t → t.engine = .idle →
    (t.result = .ok ∧ t.errlog = s.errlog ∧ t.errinfo = s.errinfo) ∨
    ∃ e : CmdError, t.result = e.result ∧ t.errinfo = e.info ∧
      ∀ k, t.errlog.getLsbD k = (s.errlog.getLsbD k || decide (k = e.result.code.toNat))

/-- `10_state.md` R26: the layout of ERRINFO for each result code, and a command that completes OK leaves it. -/
def Obligations.ErrinfoLayouts : Prop :=
  (∀ c : ArgCause, (CmdError.invalidArgument c).info.toNat =
    match c with
    | .width => 1
    | .poly => 2
    | .seed => 3
    | .bufCap => 4
    | .length => 5) ∧
  (∀ l : Life, (CmdError.invalidState l).info.toNat =
    match l with
    | .created => 0
    | .initialized => 1
    | .finalized => 2) ∧
  (∀ n : BitVec 63, (CmdError.ioFailure .openSource n).info.toNat = n.toNat ∧
    (CmdError.ioFailure .readSource n).info.toNat = 2 ^ 63 + n.toNat) ∧
  (∀ w : CmdWord, (CmdError.illegalCommand w).info.toNat = w.toNat) ∧
  ∀ (i : Instr) (s t : State), exec i s = .next t → t.engine = .idle → t.result = .ok → t.errinfo = s.errinfo

/-- `60_exceptions.md` R105: the codes of RESULT. -/
def Obligations.ResultCodesAreTheTable : Prop :=
  ResultCode.ok.code = 0#3 ∧ ResultCode.invalidArgument.code = 1#3 ∧ ResultCode.invalidState.code = 2#3 ∧
  ResultCode.ioFailure.code = 3#3 ∧ ResultCode.illegalCommand.code = 4#3 ∧
  ∀ (s : State), s.readReg .result ≠ 5#3 ∧ s.readReg .result ≠ 6#3 ∧ s.readReg .result ≠ 7#3

/-- `43_oneshot.md` R100: a one-shot command that fails exposes no result, and an illegal word leaves OVALID. R100 says that
the result then holds no value; that a read of it gives a free value is the model's choice among those of R34 (log 4). -/
def Obligations.FailedOneShotExposesNothing : Prop :=
  (∀ (i : Instr) (s t : State), s.engine = .idle → i.wellFormed = true → i.isOneShot = true → exec i s = .next t →
    t.engine = .idle → t.result ≠ .ok →
      t = { s with
        ovalid := false, result := t.result, errlog := t.errlog, errinfo := t.errinfo, src := t.src,
        draws := s.draws + 1 } ∧
      t.readReg .odigest = (Config.freeReg t.draws 0x0D).setWidth 64 ∧
      t.readReg .owidth = (Config.freeReg t.draws 0x0C).setWidth 8 ∧
      t.readReg .ooutBytes = (Config.freeReg t.draws 0x0E).setWidth 64 ∧
      t.readReg .ooutHex = Config.freeReg t.draws 0x0F) ∧
  ∀ (s t : State) (w : CmdWord), ¬ LegalWord w → runWord w s = .next t → t.ovalid = s.ovalid

/-- `43_oneshot.md` R96: a one-shot command is allowed in every STATE, writes only its result and the completion record
(and uses up the source's answers), and neither reads nor writes the streaming context. -/
def Obligations.OneShotIgnoresTheContext : Prop :=
  ∀ (i : Instr) (s t : State), i.isOneShot = true → exec i s = .next t →
    t = { s with
      odigest := t.odigest, owidth := t.owidth, ovalid := t.ovalid, result := t.result, errlog := t.errlog,
      errinfo := t.errinfo, engine := t.engine, src := t.src, draws := t.draws } ∧
    (s.engine = .idle → t.engine = .idle → t.result ≠ .invalidState) ∧
    ∀ (life : Life) (cw : BitVec 8) (cp cs reg digest : Container) (table : Table),
      exec i { s with
          life := life, cfgWidth := cw, cfgPoly := cp, cfgSeed := cs, reg := reg, table := table, digest := digest } =
        .next { t with
          life := life, cfgWidth := cw, cfgPoly := cp, cfgSeed := cs, reg := reg, table := table, digest := digest }

/-- `43_oneshot.md` R101, `95_test_vectors.md` Q9: a one-shot result over any bytes is the result of streaming them. A byte
of BUF the host has not written counts with the free value its read gives (log 5). -/
def Obligations.OneShotEqualsStreaming : Prop :=
  ∀ (s : State) (c : CfgSel) (cfg : Cfg) (bytes : List Byte), s.selectCfg c = some cfg → cfg.Supported →
    ∃ t, runInstrs (.init c :: (bytes.map .updb ++ [.finalize])) s = .next t ∧ t.life = .finalized ∧
      t.cfgWidth = cfg.width ∧
      (∃ u, exec (.computeSrc c) { s with src := some (.opened bytes .eof) } = .next u ∧ u.ovalid = true ∧
        u.odigest = t.digest ∧ u.owidth = t.cfgWidth ∧ u.readReg .ooutBytes = t.readReg .outBytes ∧
        u.readReg .ooutHex = t.readReg .outHex) ∧
      ∀ l, s.bufLen ≤ s.params.bufCap → s.length l ≤ s.bufLen → (s.length l).toNat = bytes.length →
        s.BufReads bytes →
        ∃ u, exec (.computeBuf c l) s = .next u ∧ u.ovalid = true ∧ u.odigest = t.digest ∧ u.owidth = t.cfgWidth ∧
          u.readReg .ooutBytes = t.readReg .outBytes ∧ u.readReg .ooutHex = t.readReg .outHex

/-- `41_update.md` R84: an UPDATE leaves what the UPDBs over its bytes leave. A byte of BUF the host has not written counts
with the free value its read gives (log 5). -/
def Obligations.UpdateEqualsItsUpdbs : Prop :=
  ∀ (s : State) (l : LenSel) (bytes : List Byte), s.life = .initialized → WidthOk s.cfgWidth →
    Fits s.reg s.cfgWidth → s.bufLen ≤ s.params.bufCap → s.length l ≤ s.bufLen →
    (s.length l).toNat = bytes.length → s.BufReads bytes →
      ∃ t, runInstrs (bytes.map .updb) s = .next t ∧
        exec (.update l) s = .next { t with result := .ok, draws := s.draws + 1 }

/-- `40_init_table.md` R73: INIT is idempotent, and what it leaves does not depend on the context it finds. -/
def Obligations.InitRestartsFromAnyContext : Prop :=
  ∀ (s t : State) (c : CfgSel),
    (c = .arg → s.argWidthHeld = true ∧ s.argPolyHeld = true ∧ s.argSeedHeld = true) →
    exec (.init c) s = .next t → t.result = .ok →
      exec (.init c) t = .next { t with draws := t.draws + 1 } ∧
      ∀ (life : Life) (cw : BitVec 8) (cp cs reg : Container) (table : Table),
        exec (.init c) { s with
          life := life, cfgWidth := cw, cfgPoly := cp, cfgSeed := cs, reg := reg, table := table } = .next t

/-- `42_finalize_serialize.md` R86: the checksum of the empty input is 0 for every configuration, and its strings. -/
def Obligations.EmptyInputGivesZero : Prop :=
  ∀ (s : State) (c : CfgSel) (cfg : Cfg), s.selectCfg c = some cfg → cfg.Supported →
    ∃ t, runInstrs [.init c, .finalize] s = .next t ∧ t.life = .finalized ∧ t.digest = 0 ∧
      (c = .std16 → t.readReg .outHex = 0x30303030#128) ∧
      (c = .std64 → t.readReg .outHex = 0x30303030303030303030303030303030#128)

/-! ### The whole machine -/

/-- Every command answers a next state, from every state. For a command that completes this is `95_test_vectors.md` Q12.
The model's choices: a COMPUTE_SRC whose source never answers, which by Q12 has no outcome, answers the state with the engine
waiting (log 7), and a term with the reserved `cfgsel`, which no word decodes to, completes with ILLEGAL_COMMAND (log 11). -/
def Obligations.CommandsAnswerANextState : Prop := ∀ (i : Instr) (s : State), ∃ t, exec i s = .next t

/-- `40_init_table.md` R75: TABLE is written by INIT and by nothing else (a reset leaves it without a value). -/
def Obligations.TableIsWrittenOnlyByInit : Prop :=
  ∀ s t : State, step s = .next t →
    t.table = s.table ∨
    (∃ w rest c, s.host = .cmd w :: rest ∧ decode w = .ok (.init c) ∧ t.result = .ok) ∨
    ∃ rest, s.host = .reset :: rest ∧ t.life = .created

/-- `10_state.md` R11: the codes of STATE, the STATE after each command, and the only steps that change it. -/
def Obligations.LifeCycleTransitions : Prop :=
  Life.created.code = 0#2 ∧ Life.initialized.code = 1#2 ∧ Life.finalized.code = 2#2 ∧
  (∀ (i : Instr) (s t : State), exec i s = .next t → t.engine = .idle →
    (t.result ≠ .ok → t.life = s.life) ∧
    (t.result = .ok → t.life =
      match i with
      | .init _ => .initialized
      | .finalize => .finalized
      | .finalizeHex => .finalized
      | .updb _ => .initialized
      | .update _ => .initialized
      | .computeBuf _ _ => s.life
      | .computeSrc _ => s.life)) ∧
  ∀ s t : State, step s = .next t →
    t.life = s.life ∨
    (∃ rest, s.host = .reset :: rest ∧ t.life = .created) ∨
    ∃ w rest i, s.host = .cmd w :: rest ∧ decode w = .ok i ∧ t.result = .ok ∧
      ((∃ c, i = .init c ∧ t.life = .initialized) ∨
        ((i = .finalize ∨ i = .finalizeHex) ∧ s.life = .initialized ∧ t.life = .finalized))

/-- `10_state.md` R21 to R23, `20_memory.md` R38: no command writes an argument register or a byte of BUF. -/
def Obligations.CommandsKeepTheHostsStorage : Prop :=
  ∀ (i : Instr) (s t : State), exec i s = .next t →
    t.argWidth = s.argWidth ∧ t.argPoly = s.argPoly ∧ t.argSeed = s.argSeed ∧ t.argLen = s.argLen ∧
    t.bufLen = s.bufLen ∧ t.argWidthHeld = s.argWidthHeld ∧ t.argPolyHeld = s.argPolyHeld ∧
    t.argSeedHeld = s.argSeedHeld ∧ t.argLenHeld = s.argLenHeld ∧
    (∀ off, t.buf.read off = s.buf.read off) ∧ t.params = s.params ∧ t.host = s.host ∧ t.replies = s.replies

/-- `10_state.md` R25: ERRLOG only grows until reset, a failing command sets its bit, bit 0 stays 0, and reset clears it. -/
def Obligations.ErrlogIsSticky : Prop :=
  (∀ s t : State, step s = .next t → (∀ rest, s.host ≠ .reset :: rest) →
    (∀ k, s.errlog.getLsbD k = true → t.errlog.getLsbD k = true) ∧
    (s.errlog.getLsbD 0 = false → t.errlog.getLsbD 0 = false)) ∧
  (∀ (w : CmdWord) (s t : State), s.engine = .idle → runWord w s = .next t → t.engine = .idle → t.result ≠ .ok →
    t.errlog.getLsbD t.result.code.toNat = true) ∧
  ∀ (s : State) (rest : List HostAction), s.host = .reset :: rest → ∃ t, step s = .next t ∧ t.errlog = 0

/-- `10_state.md` R14: every step keeps the range invariant. -/
def Obligations.StepKeepsTheRangeInvariant : Prop :=
  ∀ s t : State, RangeInv s → step s = .next t → RangeInv t

/-- Every step keeps the whole invariant: ranges, TABLE, the frozen digest, the one-shot result, ERRLOG and BUF
(`10_state.md` R14 to R16, R19, R25; `20_memory.md` R38). -/
def Obligations.StepKeepsTheInvariant : Prop :=
  ∀ s t : State, s.Inv → step s = .next t → t.Inv

/-- `00_scope.md` R6: BYTE_ORDER never changes, and it decides nothing but the four views. -/
def Obligations.ByteOrderDecidesOnlyTheViews : Prop :=
  State.reset.params.byteOrder = .lsbFirst ∧
  (∀ s t : State, step s = .next t → t.params = s.params) ∧
  (∀ (i : Instr) (s t : State) (order : ByteOrder), exec i s = .next t →
    exec i { s with params := { s.params with byteOrder := order } } =
      .next { t with params := { t.params with byteOrder := order } }) ∧
  ∀ (s : State) (order : ByteOrder) (r : Reg), r ∉ [Reg.outBytes, .outHex, .ooutBytes, .ooutHex] →
    ({ s with params := { s.params with byteOrder := order } } : State).readReg r = s.readReg r

/-- `10_state.md` R21 to R23, R28: a host write reaches its RW register only; a write to a read-only register or to a number
that is no register (0x15 and above) changes nothing (for the latter two, log 10). -/
def Obligations.HostWriteReachesItsRegisterOnly : Prop :=
  (∀ (s : State) (past : Nat) (v : View) (rest : List HostAction), s.engine = .idle →
    s.host = .wrUnmapped past v :: rest → step s = .next { s with host := rest }) ∧
  ∀ (s : State) (r : Reg) (v : BitVec r.width) (rest : List HostAction), s.engine = .idle → s.host = .wr r v :: rest →
    ∃ t, step s = .next t ∧ t.host = rest ∧
      (r ∈ [Reg.argWidth, .argPoly, .argSeed, .argLen, .bufLen] → t.holds r = true ∧ t.content r = v) ∧
      (r ∉ [Reg.argWidth, .argPoly, .argSeed, .argLen, .bufLen] → t = { s with host := rest }) ∧
      (∀ q, q ≠ r → t.holds q = s.holds q ∧ t.content q = s.content q) ∧
      t.table = s.table ∧ t.buf = s.buf ∧ t.src = s.src ∧ t.replies = s.replies ∧ t.draws = s.draws ∧
      t.engine = s.engine ∧ t.params = s.params

/-- `20_memory.md` R36, R37: a read of a register or of an entry answers the value and changes nothing of the block; a write
to TABLE changes nothing; `SRC script` names the answers the next COMPUTE_SRC gets and changes nothing else
(`30_encoding.md` R66). The model's choices: a read of what holds no value answers a free value (R34, log 4), and so does a
read at 0x15 and above (R28, log 10); the replies are kept (log 12); a second SRC replaces the first (log 6). -/
def Obligations.ReadsHaveNoSideEffect : Prop :=
  (∀ (s : State) (r : Reg) (rest : List HostAction), s.engine = .idle → s.host = .rd r :: rest →
    step s = .next { s with
      host := rest, draws := s.draws + 1,
      replies := s.replies ++ [.reg r (if s.holds r = true then s.content r
        else (Config.freeReg s.draws r.no).setWidth r.width)] }) ∧
  (∀ (s : State) (i : Byte) (rest : List HostAction), s.engine = .idle → s.host = .rdTable i :: rest →
    step s = .next { s with
      host := rest, draws := s.draws + 1,
      replies := s.replies ++ [.entry i (if s.life = .created then Config.freeEntry s.draws i.toNat
        else lookup s.table i)] }) ∧
  (∀ (s : State) (i : Byte) (v : Container) (rest : List HostAction), s.engine = .idle →
    s.host = .wrTable i v :: rest → step s = .next { s with host := rest }) ∧
  (∀ (s : State) (past : Nat) (rest : List HostAction), s.engine = .idle → s.host = .rdUnmapped past :: rest →
    step s = .next { s with
      host := rest, draws := s.draws + 1,
      replies := s.replies ++ [.unmapped past (Config.freeReg s.draws (0x15 + past))] }) ∧
  ∀ (s : State) (script : SrcScript) (rest : List HostAction), s.engine = .idle → s.host = .src script :: rest →
    ∃ t, step s = .next t ∧ t.srcScript = script ∧ t = { s with host := rest, src := some script }

/-- `10_state.md` R27: its column "holds a value when", for every register. A register, TABLE entry or BUF byte that holds a
value reads as it; that a read of one that holds none gives a free value, whatever the storage behind it contains, is the
model's choice among those of R34 (log 4, log 5). -/
def Obligations.ValuelessReadsAreFree : Prop :=
  ∀ s : State,
    (∀ r : Reg, s.holds r = true ↔
      match r with
      | .state => True
      | .result => True
      | .errlog => True
      | .errinfo => True
      | .cfgWidth => s.life ≠ .created
      | .cfgPoly => s.life ≠ .created
      | .cfgSeed => s.life ≠ .created
      | .reg => s.life ≠ .created
      | .digest => s.life = .finalized
      | .outBytes => s.life = .finalized
      | .outHex => s.life = .finalized
      | .ovalid => True
      | .owidth => s.ovalid = true
      | .odigest => s.ovalid = true
      | .ooutBytes => s.ovalid = true
      | .ooutHex => s.ovalid = true
      | .argWidth => s.argWidthHeld = true
      | .argPoly => s.argPolyHeld = true
      | .argSeed => s.argSeedHeld = true
      | .argLen => s.argLenHeld = true
      | .bufLen => True) ∧
    (∀ r : Reg, s.holds r = false → s.readReg r = (Config.freeReg s.draws r.no).setWidth r.width) ∧
    (∀ r : Reg, s.holds r = true → s.readReg r = s.content r) ∧
    (s.life = .created → ∀ i : Byte, s.readEntry i = Config.freeEntry s.draws i.toNat) ∧
    (s.life ≠ .created → ∀ i : Byte, s.readEntry i = lookup s.table i) ∧
    (∀ off, s.buf.read off = none → s.bufByte off = Config.freeByte s.draws off) ∧
    ∀ off b, s.buf.read off = some b → s.bufByte off = b

/-- `20_memory.md` R38, R39: a byte written to BUF is read back, no other byte changes, and an offset of BUFCAP or above
does not exist (there the model stops, log 9). -/
def Obligations.HostAccessToTheBuffer : Prop :=
  ∀ (s : State) (off : Nat) (rest : List HostAction), s.engine = .idle →
    (∀ b, s.host = .wrBuf off b :: rest → off < s.params.bufCap.toNat →
      ∃ t, step s = .next t ∧ t = { s with host := rest, buf := t.buf } ∧
        ∀ a, t.buf.read a = if a = off then some b else s.buf.read a) ∧
    (s.host = .rdBuf off :: rest → off < s.params.bufCap.toNat →
      step s = .next { s with
        host := rest, draws := s.draws + 1, replies := s.replies ++ [.byte off (s.bufByte off)] }) ∧
    (∀ b, s.host = .wrBuf off b :: rest → s.params.bufCap.toNat ≤ off → step s = .fault (.bufOffsetOutside off)) ∧
    (s.host = .rdBuf off :: rest → s.params.bufCap.toNat ≤ off → step s = .fault (.bufOffsetOutside off))

/-- `70_reset_and_hazards.md` R128, R131, R136 and `60_exceptions.md` R120: with no host action the block holds its state,
and while a COMPUTE_SRC waits every host action but reset has no meaning (log 8, log 14). -/
def Obligations.QuietAndWaitingBlocksHoldTheirState : Prop :=
  ∀ s : State,
    (s.host = [] → step s = .next s) ∧
    ∀ a rest, s.engine = .waiting → s.host = a :: rest → a ≠ .reset → step s = .refused .hostDuringCommand

/-! ### The assembler -/

/-- `30_encoding.md` R64: every line of the syntax table and its word, with every `cfg`, and `UPDB n` for every n from 0 to
255 in decimal and in hexadecimal; operands in small letters; operands an assembler rejects. The separation of words is the
model's (log 18). -/
def Obligations.AssemblerLinesAreTheirWords : Prop :=
  assemble ["INIT ARG".toList, "INIT STD16".toList, [], "; a comment".toList, "INIT STD64".toList] =
    some [0x1000#16, 0x1400#16, 0x1800#16] ∧
  (∀ n < 256, assemble ["UPDB ".toList ++ Nat.toDigits 10 n] = some [0x2000#16 + BitVec.ofNat 16 n] ∧
    assemble ["UPDB 0x".toList ++ Nat.toDigits 16 n] = some [0x2000#16 + BitVec.ofNat 16 n]) ∧
  assemble ["UPDATE".toList, "UPDATE LEN".toList, "FINALIZE".toList, "FINALIZE_HEX".toList] =
    some [0x3000#16, 0x3200#16, 0x4000#16, 0x5000#16] ∧
  assemble ["COMPUTE_BUF ARG".toList, "COMPUTE_BUF STD16".toList, "COMPUTE_BUF STD64".toList] =
    some [0x6000#16, 0x6400#16, 0x6800#16] ∧
  assemble ["COMPUTE_BUF ARG, LEN".toList, "COMPUTE_BUF STD16, LEN".toList, "COMPUTE_BUF STD64, LEN".toList] =
    some [0x6200#16, 0x6600#16, 0x6A00#16] ∧
  assemble ["COMPUTE_SRC ARG".toList, "COMPUTE_SRC STD16".toList, "COMPUTE_SRC STD64".toList] =
    some [0x7000#16, 0x7400#16, 0x7800#16] ∧
  assemble ["INIT std64".toList, "UPDATE len".toList, "UPDB 0X3F ; comment".toList] =
    some [0x1800#16, 0x3200#16, 0x203F#16] ∧
  assembleLine "UPDB 256".toList = none ∧ assembleLine "INIT STD32".toList = none ∧
  assembleLine "COMPUTE_BUF STD32, LEN".toList = none ∧ assembleLine "COMPUTE_SRC STD32".toList = none

/-- `30_encoding.md` R65: the pseudo-commands and their expansions. -/
def Obligations.PseudoCommandsExpand : Prop :=
  assemble ["CRC16_BUF".toList] = some [0x6400#16] ∧ assemble ["CRC64_BUF".toList] = some [0x6800#16] ∧
  assemble ["CRC16_SRC".toList] = some [0x7400#16] ∧ assemble ["CRC64_SRC".toList] = some [0x7800#16] ∧
  ∀ text : List Char, (∀ c ∈ text, c.toNat < 128 ∧ c ≠ '"') →
    assembleLine ("UPDS \"".toList ++ text ++ ['"']) = some (text.map fun c => .updb (BitVec.ofNat 8 c.toNat))
end

