-- ==== Sys2Proof/Laws/Crc.lean ====
section
/-! SUPPORT. Small lemmas of the data path: tables, the shift-and-XOR step, containers, the source loop. -/

namespace Sys2Proof.Machine

open Sys2Proof

/-! ### Tables -/

@[simp] theorem lookup_tableOf {W : Nat} (f : Byte → BitVec W) (i : Byte) : lookup (tableOf f) i = f i := by
  simp [lookup, tableOf, BitVec.ofNat_toNat]

@[simp] theorem lookup_makeTable {W : Nat} (poly : BitVec W) (i : Byte) :
    lookup (makeTable poly) i = tableEntry poly i := by
  simp [makeTable]

@[simp] theorem lookup_cfgTable (c : Cfg) (i : Byte) :
    lookup c.table i = widen (tableEntry (narrow c.width.toNat c.poly) i) := by
  simp [Cfg.table]

theorem cfg_entries (c : Cfg) : c.entries = tableEntry (narrow c.width.toNat c.poly) := by
  funext i; simp [Cfg.entries]

/-! ### The shift-and-XOR step -/

@[simp] theorem shiftSteps_zero {W : Nat} (poly e : BitVec W) : shiftSteps poly 0 e = e := rfl

theorem shiftSteps_succ {W : Nat} (poly e : BitVec W) (n : Nat) :
    shiftSteps poly (n + 1) e = shiftSteps poly n (shiftStep poly e) := rfl

theorem shiftSteps_add {W : Nat} (poly : BitVec W) (m n : Nat) (e : BitVec W) :
    shiftSteps poly (m + n) e = shiftSteps poly n (shiftSteps poly m e) := by
  induction m generalizing e with
  | zero => simp
  | succ m ih => rw [Nat.succ_add, shiftSteps_succ, ih, shiftSteps_succ]

/-- The step is linear over XOR. -/
theorem shiftStep_xor {W : Nat} (poly a b : BitVec W) :
    shiftStep poly (a ^^^ b) = shiftStep poly a ^^^ shiftStep poly b := by
  simp only [shiftStep, BitVec.getLsbD_xor, BitVec.ushiftRight_xor_distrib]
  generalize a >>> 1 = x
  generalize b >>> 1 = y
  cases a.getLsbD 0 <;> cases b.getLsbD 0 <;> ext k hk <;> simp <;> cases x[k] <;> cases y[k] <;> simp

theorem shiftSteps_xor {W : Nat} (poly : BitVec W) (n : Nat) (a b : BitVec W) :
    shiftSteps poly n (a ^^^ b) = shiftSteps poly n a ^^^ shiftSteps poly n b := by
  induction n generalizing a b with
  | zero => rfl
  | succ n ih => simp only [shiftSteps_succ, shiftStep_xor, ih]

/-- As long as only zeros leave at the bottom, the steps are plain shifts. -/
theorem shiftSteps_of_low_zero {W : Nat} (poly : BitVec W) (n : Nat) (e : BitVec W)
    (h : ∀ k < n, e.getLsbD k = false) : shiftSteps poly n e = e >>> n := by
  induction n generalizing e with
  | zero => simp
  | succ n ih =>
    have h0 : e.getLsbD 0 = false := h 0 (by omega)
    have hs : shiftStep poly e = e >>> 1 := by simp [shiftStep, h0]
    rw [shiftSteps_succ, hs, ih (e >>> 1), ← BitVec.shiftRight_add, Nat.add_comm]
    intro k hk
    rw [BitVec.getLsbD_ushiftRight]
    exact h (1 + k) (by omega)

/-! ### The update engine -/

@[simp] theorem updateBytes_nil {W : Nat} (r : BitVec W) (t : Byte → BitVec W) : updateBytes r t [] = r := rfl

@[simp] theorem updateBytes_cons {W : Nat} (r : BitVec W) (t : Byte → BitVec W) (b : Byte) (rest : List Byte) :
    updateBytes r t (b :: rest) = updateBytes (updateByte r t b) t rest := rfl

/-! ### Containers -/

theorem widen_toNat {W : Nat} (v : BitVec W) (h : W ≤ 64) : (widen v).toNat = v.toNat := by
  rw [widen, BitVec.toNat_setWidth, Nat.mod_eq_of_lt]
  exact Nat.lt_of_lt_of_le v.isLt (Nat.pow_le_pow_right (by omega) h)

theorem narrow_widen {W : Nat} (v : BitVec W) (h : W ≤ 64) : narrow W (widen v) = v := by
  apply BitVec.eq_of_toNat_eq
  rw [narrow, BitVec.toNat_setWidth, widen_toNat v h, Nat.mod_eq_of_lt v.isLt]

theorem widen_narrow (W : Nat) (c : Container) (h : c.toNat < 2 ^ W) : widen (narrow W c) = c := by
  apply BitVec.eq_of_toNat_eq
  rw [widen, narrow, BitVec.toNat_setWidth, BitVec.toNat_setWidth, Nat.mod_eq_of_lt h, Nat.mod_eq_of_lt c.isLt]

theorem fits_widen {W : Nat} (v : BitVec W) (h : W ≤ 64) : (widen v).toNat < 2 ^ W := by
  rw [widen_toNat v h]; exact v.isLt

theorem widen_xor {W : Nat} (a b : BitVec W) : widen (a ^^^ b) = widen a ^^^ widen b := by
  simp [widen]

/-- A supported width is at most 64. -/
theorem width_le (w : BitVec 8) (h : WidthOk w) : w.toNat ≤ 64 := by
  rcases h with rfl | rfl <;> decide

theorem container_xor_fits (a b : Container) (w : BitVec 8) (ha : Fits a w) (hb : Fits b w) : Fits (a ^^^ b) w := by
  rw [Fits, BitVec.toNat_xor]; exact Nat.xor_lt_two_pow ha hb

/-! ### The configuration check and the source -/

/-- The check passes exactly on the supported configurations (`40_init_table.md` R69). -/
theorem check_none_iff (c : Cfg) : c.check = none ↔ c.Supported := by
  simp only [Cfg.check, Cfg.Supported, WidthOk, Fits]
  split
  · next h => simp [h]
  · next h =>
    split
    · simp; omega
    · split
      · simp; omega
      · simp only [true_iff]; exact ⟨by by_cases h16 : c.width = 16#8 <;> simp_all, by omega, by omega⟩

/-- The loop of COMPUTE_SRC, said once: the update engine on all bytes, then the ending. -/
theorem srcLoop_eq {W : Nat} (t : Byte → BitVec W) (ending : SrcEnding) (bytes : List Byte) (r : BitVec W)
    (n : BitVec 63) :
    srcLoop t ending bytes r n =
      match ending with
      | .eof => .ended (updateBytes r t bytes)
      | .fail => .failed .readSource (countUp^[bytes.length] n)
      | .silent => .noAnswer := by
  induction bytes generalizing r n with
  | nil => cases ending <;> rfl
  | cons b rest ih => simp only [srcLoop, ih, updateBytes_cons, List.length_cons, Function.iterate_succ_apply]

/-- The counter after any number of bytes saturates (`60_exceptions.md` R108). -/
theorem countUp_iterate_toNat (k : Nat) (n : BitVec 63) :
    (countUp^[k] n).toNat = min (n.toNat + k) (2 ^ 63 - 1) := by
  induction k generalizing n with
  | zero => have := n.isLt; simp; omega
  | succ k ih =>
    rw [Function.iterate_succ_apply, ih, countUp]
    have hn := n.isLt
    split
    · next h => subst h; simp only [BitVec.toNat_allOnes]; omega
    · next h =>
      have hne : n.toNat ≠ 2 ^ 63 - 1 := fun he => h (BitVec.eq_of_toNat_eq (by simpa using he))
      rw [BitVec.toNat_add, show (1#63).toNat = 1 from rfl, Nat.mod_eq_of_lt (by omega)]
      omega

end Sys2Proof.Machine
end

