-- ==== Sys2Proof/Laws/State.lean ====
section
/-! SUPPORT. One lemma per field per update of the state, true by `rfl`, so that no proof unfolds a record update. -/

namespace Sys2Proof.Machine

open Sys2Proof

/-! ### `completeOk` -/

@[simp] theorem State.completeOk_life (s : State) :
    (s.completeOk).life = s.life := rfl

@[simp] theorem State.completeOk_cfgWidth (s : State) :
    (s.completeOk).cfgWidth = s.cfgWidth := rfl

@[simp] theorem State.completeOk_cfgPoly (s : State) :
    (s.completeOk).cfgPoly = s.cfgPoly := rfl

@[simp] theorem State.completeOk_cfgSeed (s : State) :
    (s.completeOk).cfgSeed = s.cfgSeed := rfl

@[simp] theorem State.completeOk_reg (s : State) :
    (s.completeOk).reg = s.reg := rfl

@[simp] theorem State.completeOk_table (s : State) :
    (s.completeOk).table = s.table := rfl

@[simp] theorem State.completeOk_digest (s : State) :
    (s.completeOk).digest = s.digest := rfl

@[simp] theorem State.completeOk_odigest (s : State) :
    (s.completeOk).odigest = s.odigest := rfl

@[simp] theorem State.completeOk_owidth (s : State) :
    (s.completeOk).owidth = s.owidth := rfl

@[simp] theorem State.completeOk_ovalid (s : State) :
    (s.completeOk).ovalid = s.ovalid := rfl

@[simp] theorem State.completeOk_argWidth (s : State) :
    (s.completeOk).argWidth = s.argWidth := rfl

@[simp] theorem State.completeOk_argPoly (s : State) :
    (s.completeOk).argPoly = s.argPoly := rfl

@[simp] theorem State.completeOk_argSeed (s : State) :
    (s.completeOk).argSeed = s.argSeed := rfl

@[simp] theorem State.completeOk_argLen (s : State) :
    (s.completeOk).argLen = s.argLen := rfl

@[simp] theorem State.completeOk_bufLen (s : State) :
    (s.completeOk).bufLen = s.bufLen := rfl

@[simp] theorem State.completeOk_argWidthHeld (s : State) :
    (s.completeOk).argWidthHeld = s.argWidthHeld := rfl

@[simp] theorem State.completeOk_argPolyHeld (s : State) :
    (s.completeOk).argPolyHeld = s.argPolyHeld := rfl

@[simp] theorem State.completeOk_argSeedHeld (s : State) :
    (s.completeOk).argSeedHeld = s.argSeedHeld := rfl

@[simp] theorem State.completeOk_argLenHeld (s : State) :
    (s.completeOk).argLenHeld = s.argLenHeld := rfl

@[simp] theorem State.completeOk_buf (s : State) :
    (s.completeOk).buf = s.buf := rfl

@[simp] theorem State.completeOk_result (s : State) :
    (s.completeOk).result = .ok := rfl

@[simp] theorem State.completeOk_errlog (s : State) :
    (s.completeOk).errlog = s.errlog := rfl

@[simp] theorem State.completeOk_errinfo (s : State) :
    (s.completeOk).errinfo = s.errinfo := rfl

@[simp] theorem State.completeOk_engine (s : State) :
    (s.completeOk).engine = s.engine := rfl

@[simp] theorem State.completeOk_params (s : State) :
    (s.completeOk).params = s.params := rfl

@[simp] theorem State.completeOk_host (s : State) :
    (s.completeOk).host = s.host := rfl

@[simp] theorem State.completeOk_src (s : State) :
    (s.completeOk).src = s.src := rfl

@[simp] theorem State.completeOk_replies (s : State) :
    (s.completeOk).replies = s.replies := rfl

@[simp] theorem State.completeOk_draws (s : State) :
    (s.completeOk).draws = s.draws + 1 := rfl

/-! ### `raise` -/

@[simp] theorem State.raise_life (s : State) (e : CmdError) :
    (s.raise e).life = s.life := rfl

@[simp] theorem State.raise_cfgWidth (s : State) (e : CmdError) :
    (s.raise e).cfgWidth = s.cfgWidth := rfl

@[simp] theorem State.raise_cfgPoly (s : State) (e : CmdError) :
    (s.raise e).cfgPoly = s.cfgPoly := rfl

@[simp] theorem State.raise_cfgSeed (s : State) (e : CmdError) :
    (s.raise e).cfgSeed = s.cfgSeed := rfl

@[simp] theorem State.raise_reg (s : State) (e : CmdError) :
    (s.raise e).reg = s.reg := rfl

@[simp] theorem State.raise_table (s : State) (e : CmdError) :
    (s.raise e).table = s.table := rfl

@[simp] theorem State.raise_digest (s : State) (e : CmdError) :
    (s.raise e).digest = s.digest := rfl

@[simp] theorem State.raise_odigest (s : State) (e : CmdError) :
    (s.raise e).odigest = s.odigest := rfl

@[simp] theorem State.raise_owidth (s : State) (e : CmdError) :
    (s.raise e).owidth = s.owidth := rfl

@[simp] theorem State.raise_ovalid (s : State) (e : CmdError) :
    (s.raise e).ovalid = s.ovalid := rfl

@[simp] theorem State.raise_argWidth (s : State) (e : CmdError) :
    (s.raise e).argWidth = s.argWidth := rfl

@[simp] theorem State.raise_argPoly (s : State) (e : CmdError) :
    (s.raise e).argPoly = s.argPoly := rfl

@[simp] theorem State.raise_argSeed (s : State) (e : CmdError) :
    (s.raise e).argSeed = s.argSeed := rfl

@[simp] theorem State.raise_argLen (s : State) (e : CmdError) :
    (s.raise e).argLen = s.argLen := rfl

@[simp] theorem State.raise_bufLen (s : State) (e : CmdError) :
    (s.raise e).bufLen = s.bufLen := rfl

@[simp] theorem State.raise_argWidthHeld (s : State) (e : CmdError) :
    (s.raise e).argWidthHeld = s.argWidthHeld := rfl

@[simp] theorem State.raise_argPolyHeld (s : State) (e : CmdError) :
    (s.raise e).argPolyHeld = s.argPolyHeld := rfl

@[simp] theorem State.raise_argSeedHeld (s : State) (e : CmdError) :
    (s.raise e).argSeedHeld = s.argSeedHeld := rfl

@[simp] theorem State.raise_argLenHeld (s : State) (e : CmdError) :
    (s.raise e).argLenHeld = s.argLenHeld := rfl

@[simp] theorem State.raise_buf (s : State) (e : CmdError) :
    (s.raise e).buf = s.buf := rfl

@[simp] theorem State.raise_result (s : State) (e : CmdError) :
    (s.raise e).result = e.result := rfl

@[simp] theorem State.raise_errlog (s : State) (e : CmdError) :
    (s.raise e).errlog = errlogSet s.errlog e.result := rfl

@[simp] theorem State.raise_errinfo (s : State) (e : CmdError) :
    (s.raise e).errinfo = e.info := rfl

@[simp] theorem State.raise_engine (s : State) (e : CmdError) :
    (s.raise e).engine = s.engine := rfl

@[simp] theorem State.raise_params (s : State) (e : CmdError) :
    (s.raise e).params = s.params := rfl

@[simp] theorem State.raise_host (s : State) (e : CmdError) :
    (s.raise e).host = s.host := rfl

@[simp] theorem State.raise_src (s : State) (e : CmdError) :
    (s.raise e).src = s.src := rfl

@[simp] theorem State.raise_replies (s : State) (e : CmdError) :
    (s.raise e).replies = s.replies := rfl

@[simp] theorem State.raise_draws (s : State) (e : CmdError) :
    (s.raise e).draws = s.draws + 1 := rfl

/-! ### `raiseOneShot` -/

@[simp] theorem State.raiseOneShot_life (s : State) (e : CmdError) :
    (s.raiseOneShot e).life = s.life := rfl

@[simp] theorem State.raiseOneShot_cfgWidth (s : State) (e : CmdError) :
    (s.raiseOneShot e).cfgWidth = s.cfgWidth := rfl

@[simp] theorem State.raiseOneShot_cfgPoly (s : State) (e : CmdError) :
    (s.raiseOneShot e).cfgPoly = s.cfgPoly := rfl

@[simp] theorem State.raiseOneShot_cfgSeed (s : State) (e : CmdError) :
    (s.raiseOneShot e).cfgSeed = s.cfgSeed := rfl

@[simp] theorem State.raiseOneShot_reg (s : State) (e : CmdError) :
    (s.raiseOneShot e).reg = s.reg := rfl

@[simp] theorem State.raiseOneShot_table (s : State) (e : CmdError) :
    (s.raiseOneShot e).table = s.table := rfl

@[simp] theorem State.raiseOneShot_digest (s : State) (e : CmdError) :
    (s.raiseOneShot e).digest = s.digest := rfl

@[simp] theorem State.raiseOneShot_odigest (s : State) (e : CmdError) :
    (s.raiseOneShot e).odigest = s.odigest := rfl

@[simp] theorem State.raiseOneShot_owidth (s : State) (e : CmdError) :
    (s.raiseOneShot e).owidth = s.owidth := rfl

@[simp] theorem State.raiseOneShot_ovalid (s : State) (e : CmdError) :
    (s.raiseOneShot e).ovalid = false := rfl

@[simp] theorem State.raiseOneShot_argWidth (s : State) (e : CmdError) :
    (s.raiseOneShot e).argWidth = s.argWidth := rfl

@[simp] theorem State.raiseOneShot_argPoly (s : State) (e : CmdError) :
    (s.raiseOneShot e).argPoly = s.argPoly := rfl

@[simp] theorem State.raiseOneShot_argSeed (s : State) (e : CmdError) :
    (s.raiseOneShot e).argSeed = s.argSeed := rfl

@[simp] theorem State.raiseOneShot_argLen (s : State) (e : CmdError) :
    (s.raiseOneShot e).argLen = s.argLen := rfl

@[simp] theorem State.raiseOneShot_bufLen (s : State) (e : CmdError) :
    (s.raiseOneShot e).bufLen = s.bufLen := rfl

@[simp] theorem State.raiseOneShot_argWidthHeld (s : State) (e : CmdError) :
    (s.raiseOneShot e).argWidthHeld = s.argWidthHeld := rfl

@[simp] theorem State.raiseOneShot_argPolyHeld (s : State) (e : CmdError) :
    (s.raiseOneShot e).argPolyHeld = s.argPolyHeld := rfl

@[simp] theorem State.raiseOneShot_argSeedHeld (s : State) (e : CmdError) :
    (s.raiseOneShot e).argSeedHeld = s.argSeedHeld := rfl

@[simp] theorem State.raiseOneShot_argLenHeld (s : State) (e : CmdError) :
    (s.raiseOneShot e).argLenHeld = s.argLenHeld := rfl

@[simp] theorem State.raiseOneShot_buf (s : State) (e : CmdError) :
    (s.raiseOneShot e).buf = s.buf := rfl

@[simp] theorem State.raiseOneShot_result (s : State) (e : CmdError) :
    (s.raiseOneShot e).result = e.result := rfl

@[simp] theorem State.raiseOneShot_errlog (s : State) (e : CmdError) :
    (s.raiseOneShot e).errlog = errlogSet s.errlog e.result := rfl

@[simp] theorem State.raiseOneShot_errinfo (s : State) (e : CmdError) :
    (s.raiseOneShot e).errinfo = e.info := rfl

@[simp] theorem State.raiseOneShot_engine (s : State) (e : CmdError) :
    (s.raiseOneShot e).engine = s.engine := rfl

@[simp] theorem State.raiseOneShot_params (s : State) (e : CmdError) :
    (s.raiseOneShot e).params = s.params := rfl

@[simp] theorem State.raiseOneShot_host (s : State) (e : CmdError) :
    (s.raiseOneShot e).host = s.host := rfl

@[simp] theorem State.raiseOneShot_src (s : State) (e : CmdError) :
    (s.raiseOneShot e).src = s.src := rfl

@[simp] theorem State.raiseOneShot_replies (s : State) (e : CmdError) :
    (s.raiseOneShot e).replies = s.replies := rfl

@[simp] theorem State.raiseOneShot_draws (s : State) (e : CmdError) :
    (s.raiseOneShot e).draws = s.draws + 1 := rfl

/-! ### `install` -/

@[simp] theorem State.install_life (s : State) (c : Cfg) :
    (s.install c).life = .initialized := rfl

@[simp] theorem State.install_cfgWidth (s : State) (c : Cfg) :
    (s.install c).cfgWidth = c.width := rfl

@[simp] theorem State.install_cfgPoly (s : State) (c : Cfg) :
    (s.install c).cfgPoly = c.poly := rfl

@[simp] theorem State.install_cfgSeed (s : State) (c : Cfg) :
    (s.install c).cfgSeed = c.seed := rfl

@[simp] theorem State.install_reg (s : State) (c : Cfg) :
    (s.install c).reg = c.seed := rfl

@[simp] theorem State.install_table (s : State) (c : Cfg) :
    (s.install c).table = c.table := rfl

@[simp] theorem State.install_digest (s : State) (c : Cfg) :
    (s.install c).digest = s.digest := rfl

@[simp] theorem State.install_odigest (s : State) (c : Cfg) :
    (s.install c).odigest = s.odigest := rfl

@[simp] theorem State.install_owidth (s : State) (c : Cfg) :
    (s.install c).owidth = s.owidth := rfl

@[simp] theorem State.install_ovalid (s : State) (c : Cfg) :
    (s.install c).ovalid = s.ovalid := rfl

@[simp] theorem State.install_argWidth (s : State) (c : Cfg) :
    (s.install c).argWidth = s.argWidth := rfl

@[simp] theorem State.install_argPoly (s : State) (c : Cfg) :
    (s.install c).argPoly = s.argPoly := rfl

@[simp] theorem State.install_argSeed (s : State) (c : Cfg) :
    (s.install c).argSeed = s.argSeed := rfl

@[simp] theorem State.install_argLen (s : State) (c : Cfg) :
    (s.install c).argLen = s.argLen := rfl

@[simp] theorem State.install_bufLen (s : State) (c : Cfg) :
    (s.install c).bufLen = s.bufLen := rfl

@[simp] theorem State.install_argWidthHeld (s : State) (c : Cfg) :
    (s.install c).argWidthHeld = s.argWidthHeld := rfl

@[simp] theorem State.install_argPolyHeld (s : State) (c : Cfg) :
    (s.install c).argPolyHeld = s.argPolyHeld := rfl

@[simp] theorem State.install_argSeedHeld (s : State) (c : Cfg) :
    (s.install c).argSeedHeld = s.argSeedHeld := rfl

@[simp] theorem State.install_argLenHeld (s : State) (c : Cfg) :
    (s.install c).argLenHeld = s.argLenHeld := rfl

@[simp] theorem State.install_buf (s : State) (c : Cfg) :
    (s.install c).buf = s.buf := rfl

@[simp] theorem State.install_result (s : State) (c : Cfg) :
    (s.install c).result = s.result := rfl

@[simp] theorem State.install_errlog (s : State) (c : Cfg) :
    (s.install c).errlog = s.errlog := rfl

@[simp] theorem State.install_errinfo (s : State) (c : Cfg) :
    (s.install c).errinfo = s.errinfo := rfl

@[simp] theorem State.install_engine (s : State) (c : Cfg) :
    (s.install c).engine = s.engine := rfl

@[simp] theorem State.install_params (s : State) (c : Cfg) :
    (s.install c).params = s.params := rfl

@[simp] theorem State.install_host (s : State) (c : Cfg) :
    (s.install c).host = s.host := rfl

@[simp] theorem State.install_src (s : State) (c : Cfg) :
    (s.install c).src = s.src := rfl

@[simp] theorem State.install_replies (s : State) (c : Cfg) :
    (s.install c).replies = s.replies := rfl

@[simp] theorem State.install_draws (s : State) (c : Cfg) :
    (s.install c).draws = s.draws := rfl

/-! ### `absorb` -/

@[simp] theorem State.absorb_life (s : State) (bytes : List Byte) :
    (s.absorb bytes).life = s.life := rfl

@[simp] theorem State.absorb_cfgWidth (s : State) (bytes : List Byte) :
    (s.absorb bytes).cfgWidth = s.cfgWidth := rfl

@[simp] theorem State.absorb_cfgPoly (s : State) (bytes : List Byte) :
    (s.absorb bytes).cfgPoly = s.cfgPoly := rfl

@[simp] theorem State.absorb_cfgSeed (s : State) (bytes : List Byte) :
    (s.absorb bytes).cfgSeed = s.cfgSeed := rfl

@[simp] theorem State.absorb_reg (s : State) (bytes : List Byte) :
    (s.absorb bytes).reg = widen (updateBytes (narrow s.cfgWidth.toNat s.reg)
      (fun i => narrow s.cfgWidth.toNat (lookup s.table i)) bytes) := rfl

@[simp] theorem State.absorb_table (s : State) (bytes : List Byte) :
    (s.absorb bytes).table = s.table := rfl

@[simp] theorem State.absorb_digest (s : State) (bytes : List Byte) :
    (s.absorb bytes).digest = s.digest := rfl

@[simp] theorem State.absorb_odigest (s : State) (bytes : List Byte) :
    (s.absorb bytes).odigest = s.odigest := rfl

@[simp] theorem State.absorb_owidth (s : State) (bytes : List Byte) :
    (s.absorb bytes).owidth = s.owidth := rfl

@[simp] theorem State.absorb_ovalid (s : State) (bytes : List Byte) :
    (s.absorb bytes).ovalid = s.ovalid := rfl

@[simp] theorem State.absorb_argWidth (s : State) (bytes : List Byte) :
    (s.absorb bytes).argWidth = s.argWidth := rfl

@[simp] theorem State.absorb_argPoly (s : State) (bytes : List Byte) :
    (s.absorb bytes).argPoly = s.argPoly := rfl

@[simp] theorem State.absorb_argSeed (s : State) (bytes : List Byte) :
    (s.absorb bytes).argSeed = s.argSeed := rfl

@[simp] theorem State.absorb_argLen (s : State) (bytes : List Byte) :
    (s.absorb bytes).argLen = s.argLen := rfl

@[simp] theorem State.absorb_bufLen (s : State) (bytes : List Byte) :
    (s.absorb bytes).bufLen = s.bufLen := rfl

@[simp] theorem State.absorb_argWidthHeld (s : State) (bytes : List Byte) :
    (s.absorb bytes).argWidthHeld = s.argWidthHeld := rfl

@[simp] theorem State.absorb_argPolyHeld (s : State) (bytes : List Byte) :
    (s.absorb bytes).argPolyHeld = s.argPolyHeld := rfl

@[simp] theorem State.absorb_argSeedHeld (s : State) (bytes : List Byte) :
    (s.absorb bytes).argSeedHeld = s.argSeedHeld := rfl

@[simp] theorem State.absorb_argLenHeld (s : State) (bytes : List Byte) :
    (s.absorb bytes).argLenHeld = s.argLenHeld := rfl

@[simp] theorem State.absorb_buf (s : State) (bytes : List Byte) :
    (s.absorb bytes).buf = s.buf := rfl

@[simp] theorem State.absorb_result (s : State) (bytes : List Byte) :
    (s.absorb bytes).result = s.result := rfl

@[simp] theorem State.absorb_errlog (s : State) (bytes : List Byte) :
    (s.absorb bytes).errlog = s.errlog := rfl

@[simp] theorem State.absorb_errinfo (s : State) (bytes : List Byte) :
    (s.absorb bytes).errinfo = s.errinfo := rfl

@[simp] theorem State.absorb_engine (s : State) (bytes : List Byte) :
    (s.absorb bytes).engine = s.engine := rfl

@[simp] theorem State.absorb_params (s : State) (bytes : List Byte) :
    (s.absorb bytes).params = s.params := rfl

@[simp] theorem State.absorb_host (s : State) (bytes : List Byte) :
    (s.absorb bytes).host = s.host := rfl

@[simp] theorem State.absorb_src (s : State) (bytes : List Byte) :
    (s.absorb bytes).src = s.src := rfl

@[simp] theorem State.absorb_replies (s : State) (bytes : List Byte) :
    (s.absorb bytes).replies = s.replies := rfl

@[simp] theorem State.absorb_draws (s : State) (bytes : List Byte) :
    (s.absorb bytes).draws = s.draws := rfl

/-! ### `freeze` -/

@[simp] theorem State.freeze_life (s : State) :
    (s.freeze).life = .finalized := rfl

@[simp] theorem State.freeze_cfgWidth (s : State) :
    (s.freeze).cfgWidth = s.cfgWidth := rfl

@[simp] theorem State.freeze_cfgPoly (s : State) :
    (s.freeze).cfgPoly = s.cfgPoly := rfl

@[simp] theorem State.freeze_cfgSeed (s : State) :
    (s.freeze).cfgSeed = s.cfgSeed := rfl

@[simp] theorem State.freeze_reg (s : State) :
    (s.freeze).reg = s.reg := rfl

@[simp] theorem State.freeze_table (s : State) :
    (s.freeze).table = s.table := rfl

@[simp] theorem State.freeze_digest (s : State) :
    (s.freeze).digest = widen (finalizeValue (narrow s.cfgWidth.toNat s.reg)
      (narrow s.cfgWidth.toNat s.cfgSeed)) := rfl

@[simp] theorem State.freeze_odigest (s : State) :
    (s.freeze).odigest = s.odigest := rfl

@[simp] theorem State.freeze_owidth (s : State) :
    (s.freeze).owidth = s.owidth := rfl

@[simp] theorem State.freeze_ovalid (s : State) :
    (s.freeze).ovalid = s.ovalid := rfl

@[simp] theorem State.freeze_argWidth (s : State) :
    (s.freeze).argWidth = s.argWidth := rfl

@[simp] theorem State.freeze_argPoly (s : State) :
    (s.freeze).argPoly = s.argPoly := rfl

@[simp] theorem State.freeze_argSeed (s : State) :
    (s.freeze).argSeed = s.argSeed := rfl

@[simp] theorem State.freeze_argLen (s : State) :
    (s.freeze).argLen = s.argLen := rfl

@[simp] theorem State.freeze_bufLen (s : State) :
    (s.freeze).bufLen = s.bufLen := rfl

@[simp] theorem State.freeze_argWidthHeld (s : State) :
    (s.freeze).argWidthHeld = s.argWidthHeld := rfl

@[simp] theorem State.freeze_argPolyHeld (s : State) :
    (s.freeze).argPolyHeld = s.argPolyHeld := rfl

@[simp] theorem State.freeze_argSeedHeld (s : State) :
    (s.freeze).argSeedHeld = s.argSeedHeld := rfl

@[simp] theorem State.freeze_argLenHeld (s : State) :
    (s.freeze).argLenHeld = s.argLenHeld := rfl

@[simp] theorem State.freeze_buf (s : State) :
    (s.freeze).buf = s.buf := rfl

@[simp] theorem State.freeze_result (s : State) :
    (s.freeze).result = s.result := rfl

@[simp] theorem State.freeze_errlog (s : State) :
    (s.freeze).errlog = s.errlog := rfl

@[simp] theorem State.freeze_errinfo (s : State) :
    (s.freeze).errinfo = s.errinfo := rfl

@[simp] theorem State.freeze_engine (s : State) :
    (s.freeze).engine = s.engine := rfl

@[simp] theorem State.freeze_params (s : State) :
    (s.freeze).params = s.params := rfl

@[simp] theorem State.freeze_host (s : State) :
    (s.freeze).host = s.host := rfl

@[simp] theorem State.freeze_src (s : State) :
    (s.freeze).src = s.src := rfl

@[simp] theorem State.freeze_replies (s : State) :
    (s.freeze).replies = s.replies := rfl

@[simp] theorem State.freeze_draws (s : State) :
    (s.freeze).draws = s.draws := rfl

/-! ### `storeOneShot` -/

@[simp] theorem State.storeOneShot_life (s : State) (c : Cfg) (r : BitVec c.width.toNat) :
    (s.storeOneShot c r).life = s.life := rfl

@[simp] theorem State.storeOneShot_cfgWidth (s : State) (c : Cfg) (r : BitVec c.width.toNat) :
    (s.storeOneShot c r).cfgWidth = s.cfgWidth := rfl

@[simp] theorem State.storeOneShot_cfgPoly (s : State) (c : Cfg) (r : BitVec c.width.toNat) :
    (s.storeOneShot c r).cfgPoly = s.cfgPoly := rfl

@[simp] theorem State.storeOneShot_cfgSeed (s : State) (c : Cfg) (r : BitVec c.width.toNat) :
    (s.storeOneShot c r).cfgSeed = s.cfgSeed := rfl

@[simp] theorem State.storeOneShot_reg (s : State) (c : Cfg) (r : BitVec c.width.toNat) :
    (s.storeOneShot c r).reg = s.reg := rfl

@[simp] theorem State.storeOneShot_table (s : State) (c : Cfg) (r : BitVec c.width.toNat) :
    (s.storeOneShot c r).table = s.table := rfl

@[simp] theorem State.storeOneShot_digest (s : State) (c : Cfg) (r : BitVec c.width.toNat) :
    (s.storeOneShot c r).digest = s.digest := rfl

@[simp] theorem State.storeOneShot_odigest (s : State) (c : Cfg) (r : BitVec c.width.toNat) :
    (s.storeOneShot c r).odigest = widen (finalizeValue r (narrow c.width.toNat c.seed)) := rfl

@[simp] theorem State.storeOneShot_owidth (s : State) (c : Cfg) (r : BitVec c.width.toNat) :
    (s.storeOneShot c r).owidth = c.width := rfl

@[simp] theorem State.storeOneShot_ovalid (s : State) (c : Cfg) (r : BitVec c.width.toNat) :
    (s.storeOneShot c r).ovalid = true := rfl

@[simp] theorem State.storeOneShot_argWidth (s : State) (c : Cfg) (r : BitVec c.width.toNat) :
    (s.storeOneShot c r).argWidth = s.argWidth := rfl

@[simp] theorem State.storeOneShot_argPoly (s : State) (c : Cfg) (r : BitVec c.width.toNat) :
    (s.storeOneShot c r).argPoly = s.argPoly := rfl

@[simp] theorem State.storeOneShot_argSeed (s : State) (c : Cfg) (r : BitVec c.width.toNat) :
    (s.storeOneShot c r).argSeed = s.argSeed := rfl

@[simp] theorem State.storeOneShot_argLen (s : State) (c : Cfg) (r : BitVec c.width.toNat) :
    (s.storeOneShot c r).argLen = s.argLen := rfl

@[simp] theorem State.storeOneShot_bufLen (s : State) (c : Cfg) (r : BitVec c.width.toNat) :
    (s.storeOneShot c r).bufLen = s.bufLen := rfl

@[simp] theorem State.storeOneShot_argWidthHeld (s : State) (c : Cfg) (r : BitVec c.width.toNat) :
    (s.storeOneShot c r).argWidthHeld = s.argWidthHeld := rfl

@[simp] theorem State.storeOneShot_argPolyHeld (s : State) (c : Cfg) (r : BitVec c.width.toNat) :
    (s.storeOneShot c r).argPolyHeld = s.argPolyHeld := rfl

@[simp] theorem State.storeOneShot_argSeedHeld (s : State) (c : Cfg) (r : BitVec c.width.toNat) :
    (s.storeOneShot c r).argSeedHeld = s.argSeedHeld := rfl

@[simp] theorem State.storeOneShot_argLenHeld (s : State) (c : Cfg) (r : BitVec c.width.toNat) :
    (s.storeOneShot c r).argLenHeld = s.argLenHeld := rfl

@[simp] theorem State.storeOneShot_buf (s : State) (c : Cfg) (r : BitVec c.width.toNat) :
    (s.storeOneShot c r).buf = s.buf := rfl

@[simp] theorem State.storeOneShot_result (s : State) (c : Cfg) (r : BitVec c.width.toNat) :
    (s.storeOneShot c r).result = s.result := rfl

@[simp] theorem State.storeOneShot_errlog (s : State) (c : Cfg) (r : BitVec c.width.toNat) :
    (s.storeOneShot c r).errlog = s.errlog := rfl

@[simp] theorem State.storeOneShot_errinfo (s : State) (c : Cfg) (r : BitVec c.width.toNat) :
    (s.storeOneShot c r).errinfo = s.errinfo := rfl

@[simp] theorem State.storeOneShot_engine (s : State) (c : Cfg) (r : BitVec c.width.toNat) :
    (s.storeOneShot c r).engine = s.engine := rfl

@[simp] theorem State.storeOneShot_params (s : State) (c : Cfg) (r : BitVec c.width.toNat) :
    (s.storeOneShot c r).params = s.params := rfl

@[simp] theorem State.storeOneShot_host (s : State) (c : Cfg) (r : BitVec c.width.toNat) :
    (s.storeOneShot c r).host = s.host := rfl

@[simp] theorem State.storeOneShot_src (s : State) (c : Cfg) (r : BitVec c.width.toNat) :
    (s.storeOneShot c r).src = s.src := rfl

@[simp] theorem State.storeOneShot_replies (s : State) (c : Cfg) (r : BitVec c.width.toNat) :
    (s.storeOneShot c r).replies = s.replies := rfl

@[simp] theorem State.storeOneShot_draws (s : State) (c : Cfg) (r : BitVec c.width.toNat) :
    (s.storeOneShot c r).draws = s.draws := rfl

/-! ### `useSrc` -/

@[simp] theorem State.useSrc_life (s : State) :
    (s.useSrc).life = s.life := rfl

@[simp] theorem State.useSrc_cfgWidth (s : State) :
    (s.useSrc).cfgWidth = s.cfgWidth := rfl

@[simp] theorem State.useSrc_cfgPoly (s : State) :
    (s.useSrc).cfgPoly = s.cfgPoly := rfl

@[simp] theorem State.useSrc_cfgSeed (s : State) :
    (s.useSrc).cfgSeed = s.cfgSeed := rfl

@[simp] theorem State.useSrc_reg (s : State) :
    (s.useSrc).reg = s.reg := rfl

@[simp] theorem State.useSrc_table (s : State) :
    (s.useSrc).table = s.table := rfl

@[simp] theorem State.useSrc_digest (s : State) :
    (s.useSrc).digest = s.digest := rfl

@[simp] theorem State.useSrc_odigest (s : State) :
    (s.useSrc).odigest = s.odigest := rfl

@[simp] theorem State.useSrc_owidth (s : State) :
    (s.useSrc).owidth = s.owidth := rfl

@[simp] theorem State.useSrc_ovalid (s : State) :
    (s.useSrc).ovalid = s.ovalid := rfl

@[simp] theorem State.useSrc_argWidth (s : State) :
    (s.useSrc).argWidth = s.argWidth := rfl

@[simp] theorem State.useSrc_argPoly (s : State) :
    (s.useSrc).argPoly = s.argPoly := rfl

@[simp] theorem State.useSrc_argSeed (s : State) :
    (s.useSrc).argSeed = s.argSeed := rfl

@[simp] theorem State.useSrc_argLen (s : State) :
    (s.useSrc).argLen = s.argLen := rfl

@[simp] theorem State.useSrc_bufLen (s : State) :
    (s.useSrc).bufLen = s.bufLen := rfl

@[simp] theorem State.useSrc_argWidthHeld (s : State) :
    (s.useSrc).argWidthHeld = s.argWidthHeld := rfl

@[simp] theorem State.useSrc_argPolyHeld (s : State) :
    (s.useSrc).argPolyHeld = s.argPolyHeld := rfl

@[simp] theorem State.useSrc_argSeedHeld (s : State) :
    (s.useSrc).argSeedHeld = s.argSeedHeld := rfl

@[simp] theorem State.useSrc_argLenHeld (s : State) :
    (s.useSrc).argLenHeld = s.argLenHeld := rfl

@[simp] theorem State.useSrc_buf (s : State) :
    (s.useSrc).buf = s.buf := rfl

@[simp] theorem State.useSrc_result (s : State) :
    (s.useSrc).result = s.result := rfl

@[simp] theorem State.useSrc_errlog (s : State) :
    (s.useSrc).errlog = s.errlog := rfl

@[simp] theorem State.useSrc_errinfo (s : State) :
    (s.useSrc).errinfo = s.errinfo := rfl

@[simp] theorem State.useSrc_engine (s : State) :
    (s.useSrc).engine = s.engine := rfl

@[simp] theorem State.useSrc_params (s : State) :
    (s.useSrc).params = s.params := rfl

@[simp] theorem State.useSrc_host (s : State) :
    (s.useSrc).host = s.host := rfl

@[simp] theorem State.useSrc_src (s : State) :
    (s.useSrc).src = none := rfl

@[simp] theorem State.useSrc_replies (s : State) :
    (s.useSrc).replies = s.replies := rfl

@[simp] theorem State.useSrc_draws (s : State) :
    (s.useSrc).draws = s.draws := rfl

/-! ### `waitForSrc` -/

@[simp] theorem State.waitForSrc_life (s : State) :
    (s.waitForSrc).life = s.life := rfl

@[simp] theorem State.waitForSrc_cfgWidth (s : State) :
    (s.waitForSrc).cfgWidth = s.cfgWidth := rfl

@[simp] theorem State.waitForSrc_cfgPoly (s : State) :
    (s.waitForSrc).cfgPoly = s.cfgPoly := rfl

@[simp] theorem State.waitForSrc_cfgSeed (s : State) :
    (s.waitForSrc).cfgSeed = s.cfgSeed := rfl

@[simp] theorem State.waitForSrc_reg (s : State) :
    (s.waitForSrc).reg = s.reg := rfl

@[simp] theorem State.waitForSrc_table (s : State) :
    (s.waitForSrc).table = s.table := rfl

@[simp] theorem State.waitForSrc_digest (s : State) :
    (s.waitForSrc).digest = s.digest := rfl

@[simp] theorem State.waitForSrc_odigest (s : State) :
    (s.waitForSrc).odigest = s.odigest := rfl

@[simp] theorem State.waitForSrc_owidth (s : State) :
    (s.waitForSrc).owidth = s.owidth := rfl

@[simp] theorem State.waitForSrc_ovalid (s : State) :
    (s.waitForSrc).ovalid = s.ovalid := rfl

@[simp] theorem State.waitForSrc_argWidth (s : State) :
    (s.waitForSrc).argWidth = s.argWidth := rfl

@[simp] theorem State.waitForSrc_argPoly (s : State) :
    (s.waitForSrc).argPoly = s.argPoly := rfl

@[simp] theorem State.waitForSrc_argSeed (s : State) :
    (s.waitForSrc).argSeed = s.argSeed := rfl

@[simp] theorem State.waitForSrc_argLen (s : State) :
    (s.waitForSrc).argLen = s.argLen := rfl

@[simp] theorem State.waitForSrc_bufLen (s : State) :
    (s.waitForSrc).bufLen = s.bufLen := rfl

@[simp] theorem State.waitForSrc_argWidthHeld (s : State) :
    (s.waitForSrc).argWidthHeld = s.argWidthHeld := rfl

@[simp] theorem State.waitForSrc_argPolyHeld (s : State) :
    (s.waitForSrc).argPolyHeld = s.argPolyHeld := rfl

@[simp] theorem State.waitForSrc_argSeedHeld (s : State) :
    (s.waitForSrc).argSeedHeld = s.argSeedHeld := rfl

@[simp] theorem State.waitForSrc_argLenHeld (s : State) :
    (s.waitForSrc).argLenHeld = s.argLenHeld := rfl

@[simp] theorem State.waitForSrc_buf (s : State) :
    (s.waitForSrc).buf = s.buf := rfl

@[simp] theorem State.waitForSrc_result (s : State) :
    (s.waitForSrc).result = s.result := rfl

@[simp] theorem State.waitForSrc_errlog (s : State) :
    (s.waitForSrc).errlog = s.errlog := rfl

@[simp] theorem State.waitForSrc_errinfo (s : State) :
    (s.waitForSrc).errinfo = s.errinfo := rfl

@[simp] theorem State.waitForSrc_engine (s : State) :
    (s.waitForSrc).engine = .waiting := rfl

@[simp] theorem State.waitForSrc_params (s : State) :
    (s.waitForSrc).params = s.params := rfl

@[simp] theorem State.waitForSrc_host (s : State) :
    (s.waitForSrc).host = s.host := rfl

@[simp] theorem State.waitForSrc_src (s : State) :
    (s.waitForSrc).src = s.src := rfl

@[simp] theorem State.waitForSrc_replies (s : State) :
    (s.waitForSrc).replies = s.replies := rfl

@[simp] theorem State.waitForSrc_draws (s : State) :
    (s.waitForSrc).draws = s.draws + 1 := rfl

/-! ### `reply` -/

@[simp] theorem State.reply_life (s : State) (r : Reply) :
    (s.reply r).life = s.life := rfl

@[simp] theorem State.reply_cfgWidth (s : State) (r : Reply) :
    (s.reply r).cfgWidth = s.cfgWidth := rfl

@[simp] theorem State.reply_cfgPoly (s : State) (r : Reply) :
    (s.reply r).cfgPoly = s.cfgPoly := rfl

@[simp] theorem State.reply_cfgSeed (s : State) (r : Reply) :
    (s.reply r).cfgSeed = s.cfgSeed := rfl

@[simp] theorem State.reply_reg (s : State) (r : Reply) :
    (s.reply r).reg = s.reg := rfl

@[simp] theorem State.reply_table (s : State) (r : Reply) :
    (s.reply r).table = s.table := rfl

@[simp] theorem State.reply_digest (s : State) (r : Reply) :
    (s.reply r).digest = s.digest := rfl

@[simp] theorem State.reply_odigest (s : State) (r : Reply) :
    (s.reply r).odigest = s.odigest := rfl

@[simp] theorem State.reply_owidth (s : State) (r : Reply) :
    (s.reply r).owidth = s.owidth := rfl

@[simp] theorem State.reply_ovalid (s : State) (r : Reply) :
    (s.reply r).ovalid = s.ovalid := rfl

@[simp] theorem State.reply_argWidth (s : State) (r : Reply) :
    (s.reply r).argWidth = s.argWidth := rfl

@[simp] theorem State.reply_argPoly (s : State) (r : Reply) :
    (s.reply r).argPoly = s.argPoly := rfl

@[simp] theorem State.reply_argSeed (s : State) (r : Reply) :
    (s.reply r).argSeed = s.argSeed := rfl

@[simp] theorem State.reply_argLen (s : State) (r : Reply) :
    (s.reply r).argLen = s.argLen := rfl

@[simp] theorem State.reply_bufLen (s : State) (r : Reply) :
    (s.reply r).bufLen = s.bufLen := rfl

@[simp] theorem State.reply_argWidthHeld (s : State) (r : Reply) :
    (s.reply r).argWidthHeld = s.argWidthHeld := rfl

@[simp] theorem State.reply_argPolyHeld (s : State) (r : Reply) :
    (s.reply r).argPolyHeld = s.argPolyHeld := rfl

@[simp] theorem State.reply_argSeedHeld (s : State) (r : Reply) :
    (s.reply r).argSeedHeld = s.argSeedHeld := rfl

@[simp] theorem State.reply_argLenHeld (s : State) (r : Reply) :
    (s.reply r).argLenHeld = s.argLenHeld := rfl

@[simp] theorem State.reply_buf (s : State) (r : Reply) :
    (s.reply r).buf = s.buf := rfl

@[simp] theorem State.reply_result (s : State) (r : Reply) :
    (s.reply r).result = s.result := rfl

@[simp] theorem State.reply_errlog (s : State) (r : Reply) :
    (s.reply r).errlog = s.errlog := rfl

@[simp] theorem State.reply_errinfo (s : State) (r : Reply) :
    (s.reply r).errinfo = s.errinfo := rfl

@[simp] theorem State.reply_engine (s : State) (r : Reply) :
    (s.reply r).engine = s.engine := rfl

@[simp] theorem State.reply_params (s : State) (r : Reply) :
    (s.reply r).params = s.params := rfl

@[simp] theorem State.reply_host (s : State) (r : Reply) :
    (s.reply r).host = s.host := rfl

@[simp] theorem State.reply_src (s : State) (r : Reply) :
    (s.reply r).src = s.src := rfl

@[simp] theorem State.reply_replies (s : State) (r : Reply) :
    (s.reply r).replies = s.replies ++ [r] := rfl

@[simp] theorem State.reply_draws (s : State) (r : Reply) :
    (s.reply r).draws = s.draws + 1 := rfl

/-! ### `presentWord` -/

@[simp] theorem State.presentWord_life (s : State) (w : CmdWord) :
    (s.presentWord w).life = s.life := rfl

@[simp] theorem State.presentWord_cfgWidth (s : State) (w : CmdWord) :
    (s.presentWord w).cfgWidth = s.cfgWidth := rfl

@[simp] theorem State.presentWord_cfgPoly (s : State) (w : CmdWord) :
    (s.presentWord w).cfgPoly = s.cfgPoly := rfl

@[simp] theorem State.presentWord_cfgSeed (s : State) (w : CmdWord) :
    (s.presentWord w).cfgSeed = s.cfgSeed := rfl

@[simp] theorem State.presentWord_reg (s : State) (w : CmdWord) :
    (s.presentWord w).reg = s.reg := rfl

@[simp] theorem State.presentWord_table (s : State) (w : CmdWord) :
    (s.presentWord w).table = s.table := rfl

@[simp] theorem State.presentWord_digest (s : State) (w : CmdWord) :
    (s.presentWord w).digest = s.digest := rfl

@[simp] theorem State.presentWord_odigest (s : State) (w : CmdWord) :
    (s.presentWord w).odigest = s.odigest := rfl

@[simp] theorem State.presentWord_owidth (s : State) (w : CmdWord) :
    (s.presentWord w).owidth = s.owidth := rfl

@[simp] theorem State.presentWord_ovalid (s : State) (w : CmdWord) :
    (s.presentWord w).ovalid = s.ovalid := rfl

@[simp] theorem State.presentWord_argWidth (s : State) (w : CmdWord) :
    (s.presentWord w).argWidth = s.argWidth := rfl

@[simp] theorem State.presentWord_argPoly (s : State) (w : CmdWord) :
    (s.presentWord w).argPoly = s.argPoly := rfl

@[simp] theorem State.presentWord_argSeed (s : State) (w : CmdWord) :
    (s.presentWord w).argSeed = s.argSeed := rfl

@[simp] theorem State.presentWord_argLen (s : State) (w : CmdWord) :
    (s.presentWord w).argLen = s.argLen := rfl

@[simp] theorem State.presentWord_bufLen (s : State) (w : CmdWord) :
    (s.presentWord w).bufLen = s.bufLen := rfl

@[simp] theorem State.presentWord_argWidthHeld (s : State) (w : CmdWord) :
    (s.presentWord w).argWidthHeld = s.argWidthHeld := rfl

@[simp] theorem State.presentWord_argPolyHeld (s : State) (w : CmdWord) :
    (s.presentWord w).argPolyHeld = s.argPolyHeld := rfl

@[simp] theorem State.presentWord_argSeedHeld (s : State) (w : CmdWord) :
    (s.presentWord w).argSeedHeld = s.argSeedHeld := rfl

@[simp] theorem State.presentWord_argLenHeld (s : State) (w : CmdWord) :
    (s.presentWord w).argLenHeld = s.argLenHeld := rfl

@[simp] theorem State.presentWord_buf (s : State) (w : CmdWord) :
    (s.presentWord w).buf = s.buf := rfl

@[simp] theorem State.presentWord_result (s : State) (w : CmdWord) :
    (s.presentWord w).result = s.result := rfl

@[simp] theorem State.presentWord_errlog (s : State) (w : CmdWord) :
    (s.presentWord w).errlog = s.errlog := rfl

@[simp] theorem State.presentWord_errinfo (s : State) (w : CmdWord) :
    (s.presentWord w).errinfo = s.errinfo := rfl

@[simp] theorem State.presentWord_engine (s : State) (w : CmdWord) :
    (s.presentWord w).engine = .idle := rfl

@[simp] theorem State.presentWord_params (s : State) (w : CmdWord) :
    (s.presentWord w).params = s.params := rfl

@[simp] theorem State.presentWord_host (s : State) (w : CmdWord) :
    (s.presentWord w).host = .cmd w :: s.host := rfl

@[simp] theorem State.presentWord_src (s : State) (w : CmdWord) :
    (s.presentWord w).src = s.src := rfl

@[simp] theorem State.presentWord_replies (s : State) (w : CmdWord) :
    (s.presentWord w).replies = s.replies := rfl

@[simp] theorem State.presentWord_draws (s : State) (w : CmdWord) :
    (s.presentWord w).draws = s.draws := rfl

/-! ### `applyReset` -/

@[simp] theorem State.applyReset_life (s : State) :
    (s.applyReset).life = (State.resetFor s.params).life := rfl

@[simp] theorem State.applyReset_cfgWidth (s : State) :
    (s.applyReset).cfgWidth = (State.resetFor s.params).cfgWidth := rfl

@[simp] theorem State.applyReset_cfgPoly (s : State) :
    (s.applyReset).cfgPoly = (State.resetFor s.params).cfgPoly := rfl

@[simp] theorem State.applyReset_cfgSeed (s : State) :
    (s.applyReset).cfgSeed = (State.resetFor s.params).cfgSeed := rfl

@[simp] theorem State.applyReset_reg (s : State) :
    (s.applyReset).reg = (State.resetFor s.params).reg := rfl

@[simp] theorem State.applyReset_table (s : State) :
    (s.applyReset).table = (State.resetFor s.params).table := rfl

@[simp] theorem State.applyReset_digest (s : State) :
    (s.applyReset).digest = (State.resetFor s.params).digest := rfl

@[simp] theorem State.applyReset_odigest (s : State) :
    (s.applyReset).odigest = (State.resetFor s.params).odigest := rfl

@[simp] theorem State.applyReset_owidth (s : State) :
    (s.applyReset).owidth = (State.resetFor s.params).owidth := rfl

@[simp] theorem State.applyReset_ovalid (s : State) :
    (s.applyReset).ovalid = (State.resetFor s.params).ovalid := rfl

@[simp] theorem State.applyReset_argWidth (s : State) :
    (s.applyReset).argWidth = (State.resetFor s.params).argWidth := rfl

@[simp] theorem State.applyReset_argPoly (s : State) :
    (s.applyReset).argPoly = (State.resetFor s.params).argPoly := rfl

@[simp] theorem State.applyReset_argSeed (s : State) :
    (s.applyReset).argSeed = (State.resetFor s.params).argSeed := rfl

@[simp] theorem State.applyReset_argLen (s : State) :
    (s.applyReset).argLen = (State.resetFor s.params).argLen := rfl

@[simp] theorem State.applyReset_bufLen (s : State) :
    (s.applyReset).bufLen = (State.resetFor s.params).bufLen := rfl

@[simp] theorem State.applyReset_argWidthHeld (s : State) :
    (s.applyReset).argWidthHeld = (State.resetFor s.params).argWidthHeld := rfl

@[simp] theorem State.applyReset_argPolyHeld (s : State) :
    (s.applyReset).argPolyHeld = (State.resetFor s.params).argPolyHeld := rfl

@[simp] theorem State.applyReset_argSeedHeld (s : State) :
    (s.applyReset).argSeedHeld = (State.resetFor s.params).argSeedHeld := rfl

@[simp] theorem State.applyReset_argLenHeld (s : State) :
    (s.applyReset).argLenHeld = (State.resetFor s.params).argLenHeld := rfl

@[simp] theorem State.applyReset_buf (s : State) :
    (s.applyReset).buf = (State.resetFor s.params).buf := rfl

@[simp] theorem State.applyReset_result (s : State) :
    (s.applyReset).result = (State.resetFor s.params).result := rfl

@[simp] theorem State.applyReset_errlog (s : State) :
    (s.applyReset).errlog = (State.resetFor s.params).errlog := rfl

@[simp] theorem State.applyReset_errinfo (s : State) :
    (s.applyReset).errinfo = (State.resetFor s.params).errinfo := rfl

@[simp] theorem State.applyReset_engine (s : State) :
    (s.applyReset).engine = (State.resetFor s.params).engine := rfl

@[simp] theorem State.applyReset_params (s : State) :
    (s.applyReset).params = s.params := rfl

@[simp] theorem State.applyReset_host (s : State) :
    (s.applyReset).host = s.host := rfl

@[simp] theorem State.applyReset_src (s : State) :
    (s.applyReset).src = s.src := rfl

@[simp] theorem State.applyReset_replies (s : State) :
    (s.applyReset).replies = s.replies := rfl

@[simp] theorem State.applyReset_draws (s : State) :
    (s.applyReset).draws = s.draws := rfl

/-! ### `pop` -/

@[simp] theorem State.pop_life (s : State) (rest : List HostAction) :
    (s.pop rest).life = s.life := rfl

@[simp] theorem State.pop_cfgWidth (s : State) (rest : List HostAction) :
    (s.pop rest).cfgWidth = s.cfgWidth := rfl

@[simp] theorem State.pop_cfgPoly (s : State) (rest : List HostAction) :
    (s.pop rest).cfgPoly = s.cfgPoly := rfl

@[simp] theorem State.pop_cfgSeed (s : State) (rest : List HostAction) :
    (s.pop rest).cfgSeed = s.cfgSeed := rfl

@[simp] theorem State.pop_reg (s : State) (rest : List HostAction) :
    (s.pop rest).reg = s.reg := rfl

@[simp] theorem State.pop_table (s : State) (rest : List HostAction) :
    (s.pop rest).table = s.table := rfl

@[simp] theorem State.pop_digest (s : State) (rest : List HostAction) :
    (s.pop rest).digest = s.digest := rfl

@[simp] theorem State.pop_odigest (s : State) (rest : List HostAction) :
    (s.pop rest).odigest = s.odigest := rfl

@[simp] theorem State.pop_owidth (s : State) (rest : List HostAction) :
    (s.pop rest).owidth = s.owidth := rfl

@[simp] theorem State.pop_ovalid (s : State) (rest : List HostAction) :
    (s.pop rest).ovalid = s.ovalid := rfl

@[simp] theorem State.pop_argWidth (s : State) (rest : List HostAction) :
    (s.pop rest).argWidth = s.argWidth := rfl

@[simp] theorem State.pop_argPoly (s : State) (rest : List HostAction) :
    (s.pop rest).argPoly = s.argPoly := rfl

@[simp] theorem State.pop_argSeed (s : State) (rest : List HostAction) :
    (s.pop rest).argSeed = s.argSeed := rfl

@[simp] theorem State.pop_argLen (s : State) (rest : List HostAction) :
    (s.pop rest).argLen = s.argLen := rfl

@[simp] theorem State.pop_bufLen (s : State) (rest : List HostAction) :
    (s.pop rest).bufLen = s.bufLen := rfl

@[simp] theorem State.pop_argWidthHeld (s : State) (rest : List HostAction) :
    (s.pop rest).argWidthHeld = s.argWidthHeld := rfl

@[simp] theorem State.pop_argPolyHeld (s : State) (rest : List HostAction) :
    (s.pop rest).argPolyHeld = s.argPolyHeld := rfl

@[simp] theorem State.pop_argSeedHeld (s : State) (rest : List HostAction) :
    (s.pop rest).argSeedHeld = s.argSeedHeld := rfl

@[simp] theorem State.pop_argLenHeld (s : State) (rest : List HostAction) :
    (s.pop rest).argLenHeld = s.argLenHeld := rfl

@[simp] theorem State.pop_buf (s : State) (rest : List HostAction) :
    (s.pop rest).buf = s.buf := rfl

@[simp] theorem State.pop_result (s : State) (rest : List HostAction) :
    (s.pop rest).result = s.result := rfl

@[simp] theorem State.pop_errlog (s : State) (rest : List HostAction) :
    (s.pop rest).errlog = s.errlog := rfl

@[simp] theorem State.pop_errinfo (s : State) (rest : List HostAction) :
    (s.pop rest).errinfo = s.errinfo := rfl

@[simp] theorem State.pop_engine (s : State) (rest : List HostAction) :
    (s.pop rest).engine = s.engine := rfl

@[simp] theorem State.pop_params (s : State) (rest : List HostAction) :
    (s.pop rest).params = s.params := rfl

@[simp] theorem State.pop_host (s : State) (rest : List HostAction) :
    (s.pop rest).host = rest := rfl

@[simp] theorem State.pop_src (s : State) (rest : List HostAction) :
    (s.pop rest).src = s.src := rfl

@[simp] theorem State.pop_replies (s : State) (rest : List HostAction) :
    (s.pop rest).replies = s.replies := rfl

@[simp] theorem State.pop_draws (s : State) (rest : List HostAction) :
    (s.pop rest).draws = s.draws := rfl

/-! ### `storeByte` -/

@[simp] theorem State.storeByte_life (s : State) (off : Nat) (b : Byte) :
    (s.storeByte off b).life = s.life := rfl

@[simp] theorem State.storeByte_cfgWidth (s : State) (off : Nat) (b : Byte) :
    (s.storeByte off b).cfgWidth = s.cfgWidth := rfl

@[simp] theorem State.storeByte_cfgPoly (s : State) (off : Nat) (b : Byte) :
    (s.storeByte off b).cfgPoly = s.cfgPoly := rfl

@[simp] theorem State.storeByte_cfgSeed (s : State) (off : Nat) (b : Byte) :
    (s.storeByte off b).cfgSeed = s.cfgSeed := rfl

@[simp] theorem State.storeByte_reg (s : State) (off : Nat) (b : Byte) :
    (s.storeByte off b).reg = s.reg := rfl

@[simp] theorem State.storeByte_table (s : State) (off : Nat) (b : Byte) :
    (s.storeByte off b).table = s.table := rfl

@[simp] theorem State.storeByte_digest (s : State) (off : Nat) (b : Byte) :
    (s.storeByte off b).digest = s.digest := rfl

@[simp] theorem State.storeByte_odigest (s : State) (off : Nat) (b : Byte) :
    (s.storeByte off b).odigest = s.odigest := rfl

@[simp] theorem State.storeByte_owidth (s : State) (off : Nat) (b : Byte) :
    (s.storeByte off b).owidth = s.owidth := rfl

@[simp] theorem State.storeByte_ovalid (s : State) (off : Nat) (b : Byte) :
    (s.storeByte off b).ovalid = s.ovalid := rfl

@[simp] theorem State.storeByte_argWidth (s : State) (off : Nat) (b : Byte) :
    (s.storeByte off b).argWidth = s.argWidth := rfl

@[simp] theorem State.storeByte_argPoly (s : State) (off : Nat) (b : Byte) :
    (s.storeByte off b).argPoly = s.argPoly := rfl

@[simp] theorem State.storeByte_argSeed (s : State) (off : Nat) (b : Byte) :
    (s.storeByte off b).argSeed = s.argSeed := rfl

@[simp] theorem State.storeByte_argLen (s : State) (off : Nat) (b : Byte) :
    (s.storeByte off b).argLen = s.argLen := rfl

@[simp] theorem State.storeByte_bufLen (s : State) (off : Nat) (b : Byte) :
    (s.storeByte off b).bufLen = s.bufLen := rfl

@[simp] theorem State.storeByte_argWidthHeld (s : State) (off : Nat) (b : Byte) :
    (s.storeByte off b).argWidthHeld = s.argWidthHeld := rfl

@[simp] theorem State.storeByte_argPolyHeld (s : State) (off : Nat) (b : Byte) :
    (s.storeByte off b).argPolyHeld = s.argPolyHeld := rfl

@[simp] theorem State.storeByte_argSeedHeld (s : State) (off : Nat) (b : Byte) :
    (s.storeByte off b).argSeedHeld = s.argSeedHeld := rfl

@[simp] theorem State.storeByte_argLenHeld (s : State) (off : Nat) (b : Byte) :
    (s.storeByte off b).argLenHeld = s.argLenHeld := rfl

@[simp] theorem State.storeByte_buf (s : State) (off : Nat) (b : Byte) :
    (s.storeByte off b).buf = s.buf.write off b := rfl

@[simp] theorem State.storeByte_result (s : State) (off : Nat) (b : Byte) :
    (s.storeByte off b).result = s.result := rfl

@[simp] theorem State.storeByte_errlog (s : State) (off : Nat) (b : Byte) :
    (s.storeByte off b).errlog = s.errlog := rfl

@[simp] theorem State.storeByte_errinfo (s : State) (off : Nat) (b : Byte) :
    (s.storeByte off b).errinfo = s.errinfo := rfl

@[simp] theorem State.storeByte_engine (s : State) (off : Nat) (b : Byte) :
    (s.storeByte off b).engine = s.engine := rfl

@[simp] theorem State.storeByte_params (s : State) (off : Nat) (b : Byte) :
    (s.storeByte off b).params = s.params := rfl

@[simp] theorem State.storeByte_host (s : State) (off : Nat) (b : Byte) :
    (s.storeByte off b).host = s.host := rfl

@[simp] theorem State.storeByte_src (s : State) (off : Nat) (b : Byte) :
    (s.storeByte off b).src = s.src := rfl

@[simp] theorem State.storeByte_replies (s : State) (off : Nat) (b : Byte) :
    (s.storeByte off b).replies = s.replies := rfl

@[simp] theorem State.storeByte_draws (s : State) (off : Nat) (b : Byte) :
    (s.storeByte off b).draws = s.draws := rfl

/-! ### `nameSrc` -/

@[simp] theorem State.nameSrc_life (s : State) (script : SrcScript) :
    (s.nameSrc script).life = s.life := rfl

@[simp] theorem State.nameSrc_cfgWidth (s : State) (script : SrcScript) :
    (s.nameSrc script).cfgWidth = s.cfgWidth := rfl

@[simp] theorem State.nameSrc_cfgPoly (s : State) (script : SrcScript) :
    (s.nameSrc script).cfgPoly = s.cfgPoly := rfl

@[simp] theorem State.nameSrc_cfgSeed (s : State) (script : SrcScript) :
    (s.nameSrc script).cfgSeed = s.cfgSeed := rfl

@[simp] theorem State.nameSrc_reg (s : State) (script : SrcScript) :
    (s.nameSrc script).reg = s.reg := rfl

@[simp] theorem State.nameSrc_table (s : State) (script : SrcScript) :
    (s.nameSrc script).table = s.table := rfl

@[simp] theorem State.nameSrc_digest (s : State) (script : SrcScript) :
    (s.nameSrc script).digest = s.digest := rfl

@[simp] theorem State.nameSrc_odigest (s : State) (script : SrcScript) :
    (s.nameSrc script).odigest = s.odigest := rfl

@[simp] theorem State.nameSrc_owidth (s : State) (script : SrcScript) :
    (s.nameSrc script).owidth = s.owidth := rfl

@[simp] theorem State.nameSrc_ovalid (s : State) (script : SrcScript) :
    (s.nameSrc script).ovalid = s.ovalid := rfl

@[simp] theorem State.nameSrc_argWidth (s : State) (script : SrcScript) :
    (s.nameSrc script).argWidth = s.argWidth := rfl

@[simp] theorem State.nameSrc_argPoly (s : State) (script : SrcScript) :
    (s.nameSrc script).argPoly = s.argPoly := rfl

@[simp] theorem State.nameSrc_argSeed (s : State) (script : SrcScript) :
    (s.nameSrc script).argSeed = s.argSeed := rfl

@[simp] theorem State.nameSrc_argLen (s : State) (script : SrcScript) :
    (s.nameSrc script).argLen = s.argLen := rfl

@[simp] theorem State.nameSrc_bufLen (s : State) (script : SrcScript) :
    (s.nameSrc script).bufLen = s.bufLen := rfl

@[simp] theorem State.nameSrc_argWidthHeld (s : State) (script : SrcScript) :
    (s.nameSrc script).argWidthHeld = s.argWidthHeld := rfl

@[simp] theorem State.nameSrc_argPolyHeld (s : State) (script : SrcScript) :
    (s.nameSrc script).argPolyHeld = s.argPolyHeld := rfl

@[simp] theorem State.nameSrc_argSeedHeld (s : State) (script : SrcScript) :
    (s.nameSrc script).argSeedHeld = s.argSeedHeld := rfl

@[simp] theorem State.nameSrc_argLenHeld (s : State) (script : SrcScript) :
    (s.nameSrc script).argLenHeld = s.argLenHeld := rfl

@[simp] theorem State.nameSrc_buf (s : State) (script : SrcScript) :
    (s.nameSrc script).buf = s.buf := rfl

@[simp] theorem State.nameSrc_result (s : State) (script : SrcScript) :
    (s.nameSrc script).result = s.result := rfl

@[simp] theorem State.nameSrc_errlog (s : State) (script : SrcScript) :
    (s.nameSrc script).errlog = s.errlog := rfl

@[simp] theorem State.nameSrc_errinfo (s : State) (script : SrcScript) :
    (s.nameSrc script).errinfo = s.errinfo := rfl

@[simp] theorem State.nameSrc_engine (s : State) (script : SrcScript) :
    (s.nameSrc script).engine = s.engine := rfl

@[simp] theorem State.nameSrc_params (s : State) (script : SrcScript) :
    (s.nameSrc script).params = s.params := rfl

@[simp] theorem State.nameSrc_host (s : State) (script : SrcScript) :
    (s.nameSrc script).host = s.host := rfl

@[simp] theorem State.nameSrc_src (s : State) (script : SrcScript) :
    (s.nameSrc script).src = some script := rfl

@[simp] theorem State.nameSrc_replies (s : State) (script : SrcScript) :
    (s.nameSrc script).replies = s.replies := rfl

@[simp] theorem State.nameSrc_draws (s : State) (script : SrcScript) :
    (s.nameSrc script).draws = s.draws := rfl

/-! ### `writeReg`: a host write changes an RW register and nothing else -/

@[simp] theorem State.writeReg_life (s : State) (r : Reg) (v : BitVec r.width) :
    (s.writeReg r v).life = s.life := by cases r <;> rfl

@[simp] theorem State.writeReg_cfgWidth (s : State) (r : Reg) (v : BitVec r.width) :
    (s.writeReg r v).cfgWidth = s.cfgWidth := by cases r <;> rfl

@[simp] theorem State.writeReg_cfgPoly (s : State) (r : Reg) (v : BitVec r.width) :
    (s.writeReg r v).cfgPoly = s.cfgPoly := by cases r <;> rfl

@[simp] theorem State.writeReg_cfgSeed (s : State) (r : Reg) (v : BitVec r.width) :
    (s.writeReg r v).cfgSeed = s.cfgSeed := by cases r <;> rfl

@[simp] theorem State.writeReg_reg (s : State) (r : Reg) (v : BitVec r.width) :
    (s.writeReg r v).reg = s.reg := by cases r <;> rfl

@[simp] theorem State.writeReg_table (s : State) (r : Reg) (v : BitVec r.width) :
    (s.writeReg r v).table = s.table := by cases r <;> rfl

@[simp] theorem State.writeReg_digest (s : State) (r : Reg) (v : BitVec r.width) :
    (s.writeReg r v).digest = s.digest := by cases r <;> rfl

@[simp] theorem State.writeReg_odigest (s : State) (r : Reg) (v : BitVec r.width) :
    (s.writeReg r v).odigest = s.odigest := by cases r <;> rfl

@[simp] theorem State.writeReg_owidth (s : State) (r : Reg) (v : BitVec r.width) :
    (s.writeReg r v).owidth = s.owidth := by cases r <;> rfl

@[simp] theorem State.writeReg_ovalid (s : State) (r : Reg) (v : BitVec r.width) :
    (s.writeReg r v).ovalid = s.ovalid := by cases r <;> rfl

@[simp] theorem State.writeReg_buf (s : State) (r : Reg) (v : BitVec r.width) :
    (s.writeReg r v).buf = s.buf := by cases r <;> rfl

@[simp] theorem State.writeReg_result (s : State) (r : Reg) (v : BitVec r.width) :
    (s.writeReg r v).result = s.result := by cases r <;> rfl

@[simp] theorem State.writeReg_errlog (s : State) (r : Reg) (v : BitVec r.width) :
    (s.writeReg r v).errlog = s.errlog := by cases r <;> rfl

@[simp] theorem State.writeReg_errinfo (s : State) (r : Reg) (v : BitVec r.width) :
    (s.writeReg r v).errinfo = s.errinfo := by cases r <;> rfl

@[simp] theorem State.writeReg_engine (s : State) (r : Reg) (v : BitVec r.width) :
    (s.writeReg r v).engine = s.engine := by cases r <;> rfl

@[simp] theorem State.writeReg_params (s : State) (r : Reg) (v : BitVec r.width) :
    (s.writeReg r v).params = s.params := by cases r <;> rfl

@[simp] theorem State.writeReg_host (s : State) (r : Reg) (v : BitVec r.width) :
    (s.writeReg r v).host = s.host := by cases r <;> rfl

@[simp] theorem State.writeReg_src (s : State) (r : Reg) (v : BitVec r.width) :
    (s.writeReg r v).src = s.src := by cases r <;> rfl

@[simp] theorem State.writeReg_replies (s : State) (r : Reg) (v : BitVec r.width) :
    (s.writeReg r v).replies = s.replies := by cases r <;> rfl

@[simp] theorem State.writeReg_draws (s : State) (r : Reg) (v : BitVec r.width) :
    (s.writeReg r v).draws = s.draws := by cases r <;> rfl

/-- A write of this register is read back (`10_state.md` R21 to R23). -/
@[simp] theorem State.readReg_writeReg_argWidth (s : State) (v : BitVec Reg.argWidth.width) :
    (s.writeReg .argWidth v).readReg .argWidth = v := rfl

/-- A write of this register is read back (`10_state.md` R21 to R23). -/
@[simp] theorem State.readReg_writeReg_argPoly (s : State) (v : BitVec Reg.argPoly.width) :
    (s.writeReg .argPoly v).readReg .argPoly = v := rfl

/-- A write of this register is read back (`10_state.md` R21 to R23). -/
@[simp] theorem State.readReg_writeReg_argSeed (s : State) (v : BitVec Reg.argSeed.width) :
    (s.writeReg .argSeed v).readReg .argSeed = v := rfl

/-- A write of this register is read back (`10_state.md` R21 to R23). -/
@[simp] theorem State.readReg_writeReg_argLen (s : State) (v : BitVec Reg.argLen.width) :
    (s.writeReg .argLen v).readReg .argLen = v := rfl

/-- A write of this register is read back (`10_state.md` R21 to R23). -/
@[simp] theorem State.readReg_writeReg_bufLen (s : State) (v : BitVec Reg.bufLen.width) :
    (s.writeReg .bufLen v).readReg .bufLen = v := rfl

end Sys2Proof.Machine
end

