-- ==== Sys2Proof/Laws/Exec.lean ====
section
/-! SUPPORT. What a command can do, said once: the effects of the seven meanings, and small facts about their operands. -/

namespace Sys2Proof.Machine

open Sys2Proof

/-- Everything a command can do to a state `s`, guards included. -/
inductive Effect (i : Instr) (s : State) : State → Prop where
  | illegal (hi : i.wellFormed = false) (w : CmdWord) : Effect i s (s.raise (.illegalCommand w))
  | badArgument (hi : (∃ c, i = .init c) ∨ ∃ l, i = .update l) (c : ArgCause) : Effect i s (s.raise (.invalidArgument c))
  | badState (hp : s.life.permits i = false) : Effect i s (s.raise (.invalidState s.life))
  | badOneShot (hi : i.isOneShot = true) (c : ArgCause) : Effect i s (s.raiseOneShot (.invalidArgument c))
  | badSource (hi : i.isOneShot = true) (p : IoPhase) (n : BitVec 63) :
      Effect i s (s.useSrc.raiseOneShot (.ioFailure p n))
  | installed (c : CfgSel) (hi : i = .init c) (cfg : Cfg) (hc : cfg.Supported) : Effect i s (s.install cfg).completeOk
  | absorbed (hi : (∃ b, i = .updb b) ∨ ∃ l, i = .update l) (hl : s.life = .initialized) (bytes : List Byte) :
      Effect i s (s.absorb bytes).completeOk
  | froze (hi : i = .finalize ∨ i = .finalizeHex) (hl : s.life = .initialized) : Effect i s s.freeze.completeOk
  | reread (hi : i = .finalizeHex) (hl : s.life = .finalized) : Effect i s s.completeOk
  | stored (hi : i.isOneShot = true) (cfg : Cfg) (hc : cfg.Supported) (r : BitVec cfg.width.toNat) :
      Effect i s (s.storeOneShot cfg r).completeOk
  | storedFromSrc (hi : i.isOneShot = true) (cfg : Cfg) (hc : cfg.Supported) (r : BitVec cfg.width.toNat) :
      Effect i s (s.useSrc.storeOneShot cfg r).completeOk
  | waits (c : CfgSel) (hi : i = .computeSrc c) : Effect i s s.useSrc.waitForSrc

theorem selectCfg_none (s : State) (c : CfgSel) (h : s.selectCfg c = none) : c.wellFormed = false := by
  cases c <;> simp_all [State.selectCfg, CfgSel.wellFormed]

theorem effect_init (c : CfgSel) (s t : State) (h : execInit c s = .next t) : Effect (.init c) s t := by
  simp only [execInit, Host.Outcome.next.injEq] at h
  subst h
  split
  · next hc => exact .illegal (i := (.init c)) (selectCfg_none s c hc) _
  · next cfg _ =>
    split
    · exact .badArgument (.inl ⟨c, rfl⟩) _
    · next hk => exact .installed c rfl cfg ((check_none_iff cfg).1 hk)

theorem effect_updb (b : Byte) (s t : State) (h : execUpdb b s = .next t) : Effect (.updb b) s t := by
  simp only [execUpdb, Host.Outcome.next.injEq] at h
  subst h
  split
  · next hl => exact .badState (by simpa [Life.permits] using hl)
  · next hl => exact .absorbed (.inl ⟨b, rfl⟩) (by simpa using hl) _

theorem effect_update (l : LenSel) (s t : State) (h : execUpdate l s = .next t) : Effect (.update l) s t := by
  simp only [execUpdate, Host.Outcome.next.injEq] at h
  subst h
  split
  · next hl => exact .badState (by simpa [Life.permits] using hl)
  · next hl =>
    split
    · exact .badArgument (.inr ⟨l, rfl⟩) _
    · exact .absorbed (.inr ⟨l, rfl⟩) (by simpa using hl) _

theorem effect_finalize (s t : State) (h : execFinalize s = .next t) : Effect .finalize s t := by
  simp only [execFinalize, Host.Outcome.next.injEq] at h
  subst h
  split
  · next hl => exact .badState (by simpa [Life.permits] using hl)
  · next hl => exact .froze (.inl rfl) (by simpa using hl)

theorem effect_finalizeHex (s t : State) (h : execFinalizeHex s = .next t) : Effect .finalizeHex s t := by
  simp only [execFinalizeHex, Host.Outcome.next.injEq] at h
  subst h
  split
  · next hl => rw [← hl]; exact .badState (by simp [Life.permits, hl])
  · next hl => exact .froze (.inr rfl) hl
  · next hl => exact .reread rfl hl

theorem effect_computeBuf (c : CfgSel) (l : LenSel) (s t : State) (h : execComputeBuf c l s = .next t) :
    Effect (.computeBuf c l) s t := by
  simp only [execComputeBuf, Host.Outcome.next.injEq] at h
  subst h
  split
  · next hc => exact .illegal (i := (.computeBuf c l)) (selectCfg_none s c hc) _
  · next cfg _ =>
    split
    · exact .badOneShot rfl _
    · next hk =>
      split
      · exact .badOneShot rfl _
      · exact .stored rfl cfg ((check_none_iff cfg).1 hk) _

theorem effect_computeSrc (c : CfgSel) (s t : State) (h : execComputeSrc c s = .next t) :
    Effect (.computeSrc c) s t := by
  simp only [execComputeSrc, Host.Outcome.next.injEq] at h
  subst h
  split
  · next hc => exact .illegal (i := (.computeSrc c)) (selectCfg_none s c hc) _
  · next cfg _ =>
    split
    · exact .badOneShot rfl _
    · next hk =>
      split
      · exact .storedFromSrc rfl cfg ((check_none_iff cfg).1 hk) _
      · exact .badSource rfl _ _
      · exact .waits c rfl

/-- The one inversion lemma of `exec`: if a command answers a next state, it did one of the effects. -/
theorem exec_effect (i : Instr) (s t : State) (h : exec i s = .next t) : Effect i s t := by
  cases i with
  | init c => exact effect_init c s t h
  | updb b => exact effect_updb b s t h
  | update l => exact effect_update l s t h
  | finalize => exact effect_finalize s t h
  | finalizeHex => exact effect_finalizeHex s t h
  | computeBuf c l => exact effect_computeBuf c l s t h
  | computeSrc c => exact effect_computeSrc c s t h

/-! ### Operands -/

/-- Reading the first offsets of BUF gives the bytes the engine reads there. -/
theorem bufBytes_of_reads (s : State) (bytes : List Byte) (h : s.BufReads bytes) : s.bufBytes bytes.length = bytes := by
  apply List.ext_getElem (by simp [State.bufBytes])
  intro j h1 h2
  simp [State.bufBytes, h j h2]

/-- Bytes the host wrote are what the engine reads (`20_memory.md` R39). -/
theorem bufReads_of_written (s : State) (bytes : List Byte)
    (h : ∀ j (hj : j < bytes.length), s.buf.read j = some bytes[j]) : s.BufReads bytes := by
  intro j hj
  simp [State.bufByte, h j hj]

/-- BUF_LEN always holds a value (`10_state.md` R27). -/
@[simp] theorem length_bufLen (s : State) : s.length .bufLen = s.bufLen := rfl

/-- The two length checks in the spelling the lemmas use (`41_update.md` R82). -/
theorem effectiveLength_eq (s : State) (l : LenSel) :
    s.effectiveLength l =
      if s.params.bufCap < s.bufLen then .error .bufCap
      else if s.bufLen < s.length l then .error .length
      else .ok (s.length l) := rfl

/-- When the two length checks pass, the effective length is the selected one (`41_update.md` R82). -/
theorem effectiveLength_ok (s : State) (l : LenSel) (h1 : s.bufLen ≤ s.params.bufCap) (h2 : s.length l ≤ s.bufLen) :
    s.effectiveLength l = .ok (s.length l) := by
  rw [effectiveLength_eq, if_neg (BitVec.not_lt.2 h1), if_neg (BitVec.not_lt.2 h2)]

end Sys2Proof.Machine
end

