-- ==== Sys2Proof/Laws/Inv.lean ====
section
/-! SUPPORT. The parts of the invariant look at a few fields only; a state that agrees on them has the part too. -/

namespace Sys2Proof.Machine

open Sys2Proof

theorem RangeInv.of_eq {s t : State} (h : RangeInv s) (h1 : t.life = s.life) (h2 : t.cfgWidth = s.cfgWidth)
    (h3 : t.cfgPoly = s.cfgPoly) (h4 : t.cfgSeed = s.cfgSeed) (h5 : t.reg = s.reg) (h6 : t.digest = s.digest)
    (h7 : t.table = s.table) : RangeInv t := by
  unfold RangeInv; rw [h1, h2, h3, h4, h5, h6, h7]; exact h

theorem TableInv.of_eq {s t : State} (h : TableInv s) (h1 : t.life = s.life) (h2 : t.cfgWidth = s.cfgWidth)
    (h3 : t.cfgPoly = s.cfgPoly) (h4 : t.table = s.table) : TableInv t := by
  unfold TableInv; rw [h1, h2, h3, h4]; exact h

theorem FrozenInv.of_eq {s t : State} (h : FrozenInv s) (h1 : t.life = s.life) (h2 : t.digest = s.digest)
    (h3 : t.reg = s.reg) (h4 : t.cfgSeed = s.cfgSeed) : FrozenInv t := by
  unfold FrozenInv; rw [h1, h2, h3, h4]; exact h

theorem OneShotInv.of_eq {s t : State} (h : OneShotInv s) (h1 : t.ovalid = s.ovalid) (h2 : t.owidth = s.owidth)
    (h3 : t.odigest = s.odigest) : OneShotInv t := by
  unfold OneShotInv; rw [h1, h2, h3]; exact h

theorem BufInv.of_eq {s t : State} (h : BufInv s) (h1 : t.buf = s.buf) (h2 : t.params = s.params) : BufInv t := by
  unfold BufInv; rw [h1, h2]; exact h

end Sys2Proof.Machine
end

