-- ==== Sys2Proof/Laws/Memory.lean ====
section
/-! SUPPORT. BUF as data: a write is read back, leaves every other offset alone and keeps the canonical form; canonical
memories that read alike are equal. -/

namespace Sys2Proof.Machine.Memory

open Sys2Proof

@[simp] theorem read_nil (a : Nat) : Memory.read [] a = Memory.unlisted := rfl

theorem read_cons (c : Nat) (x : Byte) (m : Memory) (a : Nat) :
    Memory.read ((c, x) :: m) a = if a = c then some x else Memory.read m a := rfl

/-- A write followed by a read of any offset (`20_memory.md` R39). -/
theorem read_write (m : Memory) (a c : Nat) (b : Byte) :
    (m.write a b).read c = if c = a then some b else m.read c := by
  induction m with
  | nil => simp [Memory.write, read_cons]
  | cons cell m ih =>
    obtain ⟨d, x⟩ := cell
    simp only [Memory.write]
    split
    · simp only [read_cons]
    · split
      · next h => subst h; simp only [read_cons]; split <;> simp_all
      · simp only [read_cons, ih]
        split <;> split <;> simp_all

theorem read_write_same (m : Memory) (a : Nat) (b : Byte) : (m.write a b).read a = some b := by
  simp [read_write]

theorem read_write_other (m : Memory) (a c : Nat) (b : Byte) (h : c ≠ a) :
    (m.write a b).read c = m.read c := by
  simp [read_write, h]

/-- The canonical form of a list with a first cell: the rest is canonical and lies above it. -/
theorem wf_cons (c : Nat) (x : Byte) (m : Memory) :
    Memory.wf ((c, x) :: m) = true ↔ Memory.wf m = true ∧ ∀ cell ∈ m.head?, c < cell.1 := by
  cases m with
  | nil => simp [Memory.wf, Memory.unlisted]
  | cons cell m =>
    obtain ⟨d, y⟩ := cell
    simp [Memory.wf, Memory.unlisted, and_comm]

/-- The first cell of a write is the written one or the first cell that was there. -/
theorem head_write (m : Memory) (a : Nat) (b : Byte) :
    ∀ cell ∈ (m.write a b).head?, cell.1 = a ∨ ∃ old ∈ m.head?, cell.1 = old.1 := by
  cases m with
  | nil => simp [Memory.write]
  | cons cell m =>
    obtain ⟨d, x⟩ := cell
    simp only [Memory.write]
    split
    · simp
    · split <;> simp

/-- A write keeps the canonical form. -/
theorem wf_write (m : Memory) (a : Nat) (b : Byte) (h : Memory.wf m = true) : Memory.wf (m.write a b) = true := by
  induction m with
  | nil => simp [Memory.write, Memory.wf, Memory.unlisted]
  | cons cell m ih =>
    obtain ⟨d, x⟩ := cell
    obtain ⟨hm, hd⟩ := (wf_cons d x m).1 h
    simp only [Memory.write]
    split
    · next hlt => exact (wf_cons a b _).2 ⟨h, by simpa using hlt⟩
    · split
      · next heq => subst heq; exact (wf_cons a b m).2 ⟨hm, hd⟩
      · next hlt hne =>
        refine (wf_cons d x _).2 ⟨ih hm, fun cell hc => ?_⟩
        rcases head_write m a b cell hc with h1 | ⟨old, ho, h1⟩
        · omega
        · rw [h1]; exact hd old ho

/-- A write below a bound keeps every offset below it. -/
theorem below_write (cap : Nat) (m : Memory) (a : Nat) (b : Byte) (ha : a < cap) (h : m.below cap = true) :
    (m.write a b).below cap = true := by
  induction m with
  | nil => simpa [Memory.write, Memory.below] using ha
  | cons cell m ih =>
    obtain ⟨d, x⟩ := cell
    simp only [Memory.below, List.all_cons, Bool.and_eq_true, decide_eq_true_eq] at h ih
    simp only [Memory.write]
    split
    · simp [Memory.below, ha, h.1]; simpa using h.2
    · split
      · next heq => simp [Memory.below, ha]; simpa using h.2
      · simp only [Memory.below, List.all_cons, Bool.and_eq_true, decide_eq_true_eq]
        exact ⟨h.1, ih h.2⟩

/-- In canonical form nothing is listed below the first cell. -/
theorem read_below_head (m : Memory) (a : Nat) (h : Memory.wf m = true) (hb : ∀ cell ∈ m.head?, a < cell.1) :
    m.read a = none := by
  induction m with
  | nil => rfl
  | cons cell m ih =>
    obtain ⟨d, x⟩ := cell
    obtain ⟨hm, hd⟩ := (wf_cons d x m).1 h
    have had : a < d := by simpa using hb
    rw [read_cons, if_neg (by omega)]
    exact ih hm fun cell hc => by have := hd cell hc; omega

/-- Canonical memories that read alike are equal data. -/
theorem ext_of_read (m n : Memory) (hm : Memory.wf m = true) (hn : Memory.wf n = true)
    (h : ∀ a, m.read a = n.read a) : m = n := by
  induction m generalizing n with
  | nil =>
    cases n with
    | nil => rfl
    | cons cell n =>
      obtain ⟨d, y⟩ := cell
      have := h d
      simp [read_cons, Memory.unlisted] at this
  | cons cell m ih =>
    obtain ⟨c, x⟩ := cell
    obtain ⟨hm', hc⟩ := (wf_cons c x m).1 hm
    cases n with
    | nil => have := h c; simp [read_cons, Memory.unlisted] at this
    | cons cell n =>
      obtain ⟨d, y⟩ := cell
      obtain ⟨hn', hd⟩ := (wf_cons d y n).1 hn
      have hcd : c = d := by
        rcases Nat.lt_trichotomy c d with hlt | heq | hgt
        · have h1 := h c
          rw [read_below_head ((d, y) :: n) c hn (by simpa using hlt)] at h1
          simp [read_cons] at h1
        · exact heq
        · have h1 := h d
          rw [read_below_head ((c, x) :: m) d hm (by simpa using hgt)] at h1
          simp [read_cons] at h1
      subst hcd
      have hxy : x = y := by simpa [read_cons] using h c
      subst hxy
      congr 1
      refine ih n hm' hn' fun a => ?_
      by_cases hac : a = c
      · subst hac
        rw [read_below_head m a hm' hc, read_below_head n a hn' hd]
      · simpa [read_cons, hac] using h a

end Sys2Proof.Machine.Memory
end

