-- ==== Sys2Proof/Laws/PerInstr.lean ====
section
/-! SUPPORT. Statements about every instruction as data, one lemma per constructor (LAWS.json). -/

namespace Sys2Proof.Laws.RowMask

open Sys2Proof

/-- The word of an instruction agrees with the `match` and `mask` columns of its row (`30_encoding.md` R56). -/
def Statement (i : Instr) : Prop := encode i &&& i.rowMask = i.rowMatch

theorem init (c : CfgSel) : Statement (.init c) := by cases c <;> rfl

theorem updb (b : Byte) : Statement (.updb b) := by
  have h : ∀ k : Byte, (0x2#4 ++ 0#4 ++ k : BitVec 16) &&& 0xFF00#16 = 0x2000#16 := by decide
  exact h b

theorem update (l : LenSel) : Statement (.update l) := by cases l <;> rfl

theorem finalize : Statement .finalize := rfl

theorem finalizeHex : Statement .finalizeHex := rfl

theorem computeBuf (c : CfgSel) (l : LenSel) : Statement (.computeBuf c l) := by cases c <;> cases l <;> rfl

theorem computeSrc (c : CfgSel) : Statement (.computeSrc c) := by cases c <;> rfl

end Sys2Proof.Laws.RowMask
end

