-- ==== Sys2Proof/Laws/Step.lean ====
section
/-! SUPPORT. What a step can do, said once: nothing, a reset, a command, a word that is no command, or a host access. -/

namespace Sys2Proof.Machine

open Sys2Proof

/-- Everything a step that answers a next state can have done, guards included. -/
inductive Did (s : State) : State → Prop where
  | quiet (h : s.host = []) : Did s s
  | reset (rest : List HostAction) (h : s.host = .reset :: rest) : Did s (s.pop rest).applyReset
  | command (w : CmdWord) (rest : List HostAction) (h : s.host = .cmd w :: rest) (he : s.engine = .idle) (i : Instr)
      (hd : decode w = .ok i) (t : State) (ht : exec i (s.pop rest) = .next t) : Did s t
  | illegal (w : CmdWord) (rest : List HostAction) (h : s.host = .cmd w :: rest) (he : s.engine = .idle)
      (c : IllegalWord) (hd : decode w = .error c) : Did s ((s.pop rest).raise (.illegalCommand w))
  | wrote (r : Reg) (v : BitVec r.width) (rest : List HostAction) (h : s.host = .wr r v :: rest)
      (he : s.engine = .idle) : Did s ((s.pop rest).writeReg r v)
  | ignored (a : HostAction) (rest : List HostAction) (h : s.host = a :: rest)
      (ha : (∃ p v, a = .wrUnmapped p v) ∨ (∃ i v, a = .wrTable i v)) (he : s.engine = .idle) : Did s (s.pop rest)
  | replied (a : HostAction) (rest : List HostAction) (h : s.host = a :: rest)
      (ha : (∃ r, a = .rd r) ∨ (∃ p, a = .rdUnmapped p) ∨ (∃ i, a = .rdTable i) ∨ (∃ o, a = .rdBuf o))
      (he : s.engine = .idle) (r : Reply) : Did s ((s.pop rest).reply r)
  | wroteBuf (off : Nat) (b : Byte) (rest : List HostAction) (h : s.host = .wrBuf off b :: rest)
      (hc : off < s.params.bufCap.toNat) (he : s.engine = .idle) :
      Did s ((s.pop rest).storeByte off b)
  | named (script : SrcScript) (rest : List HostAction) (h : s.host = .src script :: rest) (he : s.engine = .idle) :
      Did s ((s.pop rest).nameSrc script)

/-- The one inversion lemma of `step`. -/
theorem step_did (s t : State) (h : step s = .next t) : Did s t := by
  cases hh : s.host with
  | nil =>
    simp only [step, portsOf, hh, Host.Outcome.next.injEq] at h
    subst h; exact .quiet hh
  | cons a rest =>
    cases a <;> cases he : s.engine <;>
      simp only [step, portsOf, hh, he, hostAccess, Host.Outcome.next.injEq, reduceCtorEq] at h
    case cmd.idle w =>
      simp only [runWord] at h
      split at h
      · next i hd => exact .command w rest hh he i hd t h
      · next c hd =>
        simp only [Host.Outcome.next.injEq] at h
        subst h; exact .illegal w rest hh he c hd
    case wr.idle r v => subst h; exact .wrote r v rest hh he
    case wrUnmapped.idle p v => subst h; exact .ignored _ rest hh (.inl ⟨p, v, rfl⟩) he
    case rd.idle r => subst h; exact .replied _ rest hh (.inl ⟨r, rfl⟩) he _
    case rdUnmapped.idle p => subst h; exact .replied _ rest hh (.inr (.inl ⟨p, rfl⟩)) he _
    case rdTable.idle i => subst h; exact .replied _ rest hh (.inr (.inr (.inl ⟨i, rfl⟩))) he _
    case wrTable.idle i v => subst h; exact .ignored _ rest hh (.inr ⟨i, v, rfl⟩) he
    case wrBuf.idle off b =>
      split at h
      · next hc =>
        simp only [Host.Outcome.next.injEq] at h
        subst h; exact .wroteBuf off b rest hh hc he
      · simp at h
    case rdBuf.idle off =>
      split at h
      · simp only [Host.Outcome.next.injEq] at h
        subst h; exact .replied _ rest hh (.inr (.inr (.inr ⟨off, rfl⟩))) he _
      · simp at h
    case src.idle script => subst h; exact .named script rest hh he
    case reset.idle => subst h; exact .reset rest hh
    case reset.waiting => subst h; exact .reset rest hh

/-- An idle engine runs the word it is given. -/
theorem step_command (s : State) (w : CmdWord) (rest : List HostAction) (h : s.host = .cmd w :: rest)
    (he : s.engine = .idle) : step s = runWord w (s.pop rest) := by
  simp [step, portsOf, h, he]

end Sys2Proof.Machine
end

