-- ==== Sys2Proof/Tests/Slice0.lean ====
section
/-! SUPPORT. The model's own tests: ill-formed terms, words written out from the encoding tables, single steps with results
taken from `95_test_vectors.md`, and one witness for each statement that has hypotheses. -/

namespace Sys2Proof.Tests

open Sys2Proof Sys2Proof.Machine

set_option maxRecDepth 20000

/-! ### Helpers -/

/-- The outcome is a next state with this property. -/
def nextWith (o : Host.Outcome State Fault Refusal) (p : State → Bool) : Bool :=
  match o with
  | .next t => p t
  | .fault _ => false
  | .refused _ => false

/-- The engine completed with this result code, ERRINFO and ERRLOG bit. -/
def failedWith (c : ResultCode) (info : Container) (t : State) : Bool :=
  t.result = c && t.errinfo = info && t.errlog.getLsbD c.code.toNat

/-- "123456789" (`95_test_vectors.md`, notation). -/
def nine : List Byte := [0x31#8, 0x32#8, 0x33#8, 0x34#8, 0x35#8, 0x36#8, 0x37#8, 0x38#8, 0x39#8]

/-- BUF offsets 0 to 8 hold "123456789". -/
def nineBuf : Memory :=
  [(0, 0x31#8), (1, 0x32#8), (2, 0x33#8), (3, 0x34#8), (4, 0x35#8), (5, 0x36#8), (6, 0x37#8), (7, 0x38#8), (8, 0x39#8)]

/-- Reset, then BUF and BUF_LEN written. -/
def withBuf : State := { State.reset with buf := nineBuf, bufLen := 9#32 }

/-- A block in Initialized with the CRC-16 preset and this register. -/
def running16 (r : Container) : State := { withBuf.install Cfg.std16 with reg := r }

/-- A block in Initialized with the CRC-64 preset and this register. -/
def running64 (r : Container) : State := { withBuf.install Cfg.std64 with reg := r }

/-- A block with the ARG registers written. -/
def withArg (w : BitVec 8) (p q : Container) : State :=
  { withBuf with argWidth := w, argPoly := p, argSeed := q, argWidthHeld := true, argPolyHeld := true, argSeedHeld := true }

/-- ARG_LEN written. -/
def withLen (s : State) (n : BitVec 32) : State := { s with argLen := n, argLenHeld := true }

/-- The source's answers named. -/
def withSrc (s : State) (script : SrcScript) : State := { s with src := some script }

/-- The last action left to the host, on an idle engine. -/
def doing (a : HostAction) : State := { State.reset with host := [a] }

/-! ### WellFormed refuses each ill-formed term -/

theorem test_init_reserved_is_ill_formed : (Instr.init .reserved).wellFormed = false := by decide

theorem test_compute_buf_reserved_is_ill_formed :
    (Instr.computeBuf .reserved .bufLen).wellFormed = false ∧
    (Instr.computeBuf .reserved .argLen).wellFormed = false := by decide

theorem test_compute_src_reserved_is_ill_formed : (Instr.computeSrc .reserved).wellFormed = false := by decide

/-! ### Decoding: words written out bit by bit from the patterns of `30_encoding.md` R55 -/

theorem test_decode_init :
    decode 0b0001000000000000#16 = .ok (.init .arg) ∧ decode 0b0001010000000000#16 = .ok (.init .std16) ∧
    decode 0b0001100000000000#16 = .ok (.init .std64) := by decide

theorem test_decode_updb :
    decode 0b0010000000000001#16 = .ok (.updb 0x01#8) ∧ decode 0b0010000010000000#16 = .ok (.updb 0x80#8) ∧
    decode 0b0010000000110001#16 = .ok (.updb 0x31#8) := by decide

theorem test_decode_update :
    decode 0b0011000000000000#16 = .ok (.update .bufLen) ∧ decode 0b0011001000000000#16 = .ok (.update .argLen) := by
  decide

theorem test_decode_finalize : decode 0b0100000000000000#16 = .ok .finalize := by decide

theorem test_decode_finalize_hex : decode 0b0101000000000000#16 = .ok .finalizeHex := by decide

theorem test_decode_compute_buf :
    decode 0b0110000000000000#16 = .ok (.computeBuf .arg .bufLen) ∧
    decode 0b0110011000000000#16 = .ok (.computeBuf .std16 .argLen) ∧
    decode 0b0110100000000000#16 = .ok (.computeBuf .std64 .bufLen) := by decide

theorem test_decode_compute_src :
    decode 0b0111000000000000#16 = .ok (.computeSrc .arg) ∧ decode 0b0111010000000000#16 = .ok (.computeSrc .std16) ∧
    decode 0b0111100000000000#16 = .ok (.computeSrc .std64) := by decide

/-- `95_test_vectors.md` X81, the illegal words. -/
theorem test_illegal_words_are_rejected_by_name :
    [0x0000#16, 0xFFFF#16, 0x8000#16].map decode = List.replicate 3 (.error .reservedOp) ∧
    [0x1200#16, 0x1401#16, 0x1500#16, 0x2131#16, 0x2431#16, 0x3400#16, 0x3001#16, 0x4200#16, 0x5001#16, 0x6100#16,
      0x7200#16].map decode = List.replicate 11 (.error .unusedField) ∧
    [0x1C00#16, 0x6E00#16, 0x6C00#16, 0x7C00#16].map decode = List.replicate 4 (.error .reservedCfgsel) := by decide

theorem test_table_word :
    decodeTableWord 16 0x2031 = some (.updb 0x31#8) ∧ decodeTableWord 16 0x6A00 = some (.computeBuf .std64 .argLen) ∧
    decodeTableWord 16 0x1C00 = none := by decide

/-! ### One step, results from `95_test_vectors.md` -/

/-- X4, through the fetch. -/
theorem test_first_word_after_reset :
    nextWith (step (State.reset.withFetchWord 16 0x1400)) (fun t =>
      t.life = .initialized && t.cfgWidth = 16#8 && t.cfgPoly = 0xA001#64 && t.cfgSeed = 0 && t.reg = 0) = true := by
  decide

/-- X2, second row. -/
theorem test_init_arg :
    nextWith (exec (.init .arg) (withArg 16#8 0x8408#64 0xFFFF#64)) (fun t =>
      t.reg = 0xFFFF#64 && lookup t.table 0x01#8 = 0x1189#64 && lookup t.table 0x02#8 = 0x2312#64 &&
      lookup t.table 0x80#8 = 0x8408#64 && lookup t.table 0xFF#8 = 0x0F78#64) = true := by decide

/-- X3, sub-cause 2 is checked before sub-cause 3. -/
theorem test_init_rejects_polynomial_first :
    nextWith (exec (.init .arg) (withArg 16#8 0x10000#64 0x10000#64)) (failedWith .invalidArgument 2#64) = true := by
  decide

/-- X20, step 2. -/
theorem test_updb_16 :
    nextWith (exec (.updb 0x32#8) (running16 0xD4C1#64)) (fun t => t.reg = 0x4594#64) = true := by decide

/-- X22, last row. -/
theorem test_updb_64 :
    nextWith (exec (.updb 0x6F#8) (running64 0x0123456789ABCDEF#64)) (fun t => t.reg = 0xC96D74D0B00EA48F#64) = true := by
  decide

/-- X24, the first four bytes. -/
theorem test_update_len :
    nextWith (exec (.update .argLen) (withLen (running16 0) 4#32)) (fun t => t.reg = 0x14BA#64) = true := by decide

/-- X24, one byte too many. -/
theorem test_update_len_too_long :
    nextWith (exec (.update .argLen) (withLen (running16 0) 10#32)) (failedWith .invalidArgument 5#64) = true := by decide

/-- X40 and X41, "123456789" under STD64. -/
theorem test_finalize_64 :
    nextWith (exec .finalize (running64 0x66A2364420E6C605#64)) (fun t =>
      t.digest = 0x995DC9BBDF1939FA#64 && t.reg = 0x66A2364420E6C605#64 && t.readReg .outBytes == 0x995DC9BBDF1939FA#64) =
      true := by decide

/-- X43, FINALIZE in Finalized. -/
theorem test_finalize_twice :
    nextWith (exec .finalize (running64 0).freeze) (failedWith .invalidState 2#64) = true := by decide

/-- X41, STD16 and LSB_FIRST: the string "3dbb". -/
theorem test_finalize_hex_16 :
    nextWith (exec .finalizeHex (running16 0xBB3D#64)) (fun t => t.readReg .outHex == 0x62626433#128) = true := by decide

/-- X43, FINALIZE_HEX in Created. -/
theorem test_finalize_hex_created :
    nextWith (exec .finalizeHex State.reset) (failedWith .invalidState 0#64) = true := by decide

/-- X60, `COMPUTE_BUF STD64`. -/
theorem test_compute_buf_64 :
    nextWith (exec (.computeBuf .std64 .bufLen) withBuf) (fun t =>
      t.odigest = 0x995DC9BBDF1939FA#64 && t.owidth = 64#8 && t.ovalid && t.life = .created) = true := by decide

/-- X60, the configuration is checked before the length. -/
theorem test_compute_buf_width_first :
    nextWith (exec (.computeBuf .arg .argLen) (withLen (withArg 32#8 0xEDB88320#64 0xFFFFFFFF#64) 10#32)) (fun t =>
      failedWith .invalidArgument 1#64 t && !t.ovalid) = true := by decide

/-- X61, `COMPUTE_SRC ARG`. -/
theorem test_compute_src_arg :
    nextWith (exec (.computeSrc .arg) (withSrc (withArg 16#8 0x8408#64 0xFFFF#64) (.opened nine .eof))) (fun t =>
      t.odigest = 0x906E#64 && t.owidth = 16#8 && t.ovalid && t.src.isNone) = true := by decide

/-- X61, a read that fails after three bytes. -/
theorem test_compute_src_fail :
    nextWith (exec (.computeSrc .std16) (withSrc withBuf (.opened [0x31#8, 0x32#8, 0x33#8] .fail))) (fun t =>
      failedWith .ioFailure 0x8000000000000003#64 t && !t.ovalid) = true := by decide

/-- X41, the MSB_FIRST rows. -/
theorem test_views_msb_first :
    bytesView 0xBB3D#64 16#8 .msbFirst = 0x3DBB#64 ∧ hexView 0xBB3D#64 16#8 .msbFirst = 0x64336262#128 ∧
    bytesView 0x995DC9BBDF1939FA#64 64#8 .msbFirst = 0xFA3919DFBBC95D99#64 ∧
    hexView 0x995DC9BBDF1939FA#64 64#8 .msbFirst = 0x61663933393166646262396364353939#128 := by decide

/-- Section 2, the marked entries of T64. -/
theorem test_table_64 :
    lookup (makeTable 0xC96C5795D7870F42#64) 0x01#8 = 0xB32E4CBE03A75F6F#64 ∧
    lookup (makeTable 0xC96C5795D7870F42#64) 0xCE#8 = 0xD52F0E859495CAED#64 ∧
    lookup (makeTable 0xC96C5795D7870F42#64) 0xFF#8 = 0xE0ADA17364673F59#64 := by decide

/-- `10_state.md` R28: a write to a read-only register changes nothing; the reply of a read is recorded. -/
theorem test_host_accesses :
    nextWith (step (doing (.wr .result 4#3))) (fun t => t.result = .ok && t.host.isEmpty) = true ∧
    nextWith (step (doing (.rd .bufLen))) (fun t => t.replies = [.reg .bufLen 0#32]) = true := by decide

/-! ### Witnesses: states and operands that meet the hypotheses, clause by clause -/

theorem witness_DecodeReadsBackEncode : (Instr.computeSrc .std64).wellFormed = true := by decide

theorem witness_EncodeReadsBackDecode : decode 0x20FF#16 = .ok (.updb 0xFF#8) := by decide

theorem witness_OpcodeMapSelectsTheCommand :
    decode 0x7800#16 = .ok (.computeSrc .std64) ∧ ¬ LegalWord 0x2100#16 := by
  unfold LegalWord; decide

theorem witness_IllegalWordChangesOnlyTheRecord : ¬ LegalWord 0x1C00#16 ∧ ¬ LegalWord 0x8000#16 := by
  unfold LegalWord; decide

theorem witness_StepRunsTheDecodedCommand :
    ((doing (.cmd 0x1400#16)).engine = .idle ∧ (doing (.cmd 0x1400#16)).host = .cmd 0x1400#16 :: [] ∧
      decode 0x1400#16 = .ok (.init .std16)) ∧
    ((doing (.cmd 0x1C00#16)).engine = .idle ∧ (doing (.cmd 0x1C00#16)).host = .cmd 0x1C00#16 :: [] ∧
      ∀ i, decode 0x1C00#16 ≠ .ok i) :=
  ⟨by decide, by decide, by decide, fun i h => nomatch (show decode 0x1C00#16 = .error .reservedCfgsel from rfl).symm.trans h⟩

theorem witness_ResetActsAtAnyTime :
    ({ doing .reset with engine := .waiting } : State).host = .reset :: [] := by decide

theorem witness_TableEntriesOfEveryPolynomial : (16 = 16 ∨ 16 = 64) ∧ (64 = 16 ∨ 64 = 64) := by decide

theorem witness_TableDrivenUpdateIsBitSerial : (16 = 16 ∨ 16 = 64) ∧ (64 = 16 ∨ 64 = 64) := by decide

theorem witness_ContainersAgreeWithTheWidth :
    (WidthOk 16#8 ∧ Fits 0xFFFF#64 16#8 ∧ ∀ i, Fits (lookup Cfg.std16.table i) 16#8) ∧
    (WidthOk 64#8 ∧ Fits 0xFFFFFFFFFFFFFFFF#64 64#8 ∧ ∀ i, Fits (lookup Cfg.std64.table i) 64#8) :=
  ⟨⟨by decide, by decide, fun i => by rw [lookup_cfgTable]; exact fits_widen _ (by decide)⟩,
    by decide, by decide, fun i => by rw [lookup_cfgTable]; exact fits_widen _ (by decide)⟩

theorem witness_AppendedDigestLeavesAConstant : (16 = 16 ∨ 16 = 64) ∧ (0#16 = 0) := by decide

theorem witness_SelectedConfigurationIsTheNamedOne :
    (withArg 255#8 0 0).argWidthHeld = true ∧ (withArg 255#8 0 0).argPolyHeld = true ∧
    (withArg 255#8 0 0).argSeedHeld = true := by decide

theorem witness_ConfigurationChecksInOrder :
    (¬ WidthOk 0#8 ∧ ¬ WidthOk 17#8 ∧ ¬ WidthOk 255#8) ∧
    (WidthOk 16#8 ∧ 2 ^ (16#8).toNat ≤ (0x10000#64).toNat) ∧
    ((0xFFFF#64).toNat < 2 ^ (16#8).toNat ∧ 2 ^ (16#8).toNat ≤ (0x10000#64).toNat) ∧
    ((0xFFFF#64).toNat < 2 ^ (16#8).toNat ∧ (0x0#64).toNat < 2 ^ (16#8).toNat) ∧
    ({ width := 64#8, poly := 0xFFFFFFFFFFFFFFFF#64, seed := 0 } : Cfg).width = 64#8 := by decide

/-- BUF_LEN one above BUFCAP, at BUFCAP; ARG_LEN one above BUF_LEN, at BUF_LEN. -/
theorem witness_EffectiveLengthChecksInOrder :
    (State.reset.params.bufCap < ({ State.reset with bufLen := 65537#32 } : State).bufLen) ∧
    (({ State.reset with bufLen := 65536#32 } : State).bufLen ≤ State.reset.params.bufCap) ∧
    ((withLen withBuf 10#32).argLenHeld = true ∧ (withLen withBuf 10#32).bufLen < (withLen withBuf 10#32).argLen ∧
      (withLen withBuf 10#32).bufLen ≤ (withLen withBuf 10#32).params.bufCap) ∧
    ((withLen withBuf 9#32).argLenHeld = true ∧ (withLen withBuf 9#32).argLen ≤ (withLen withBuf 9#32).bufLen) := by
  decide

theorem witness_SerBytesPlacesEveryByte : (64 = 16 ∨ 64 = 64) ∧ 0 < 16 / 8 ∧ 7 < 64 / 8 := by decide

theorem witness_SerHexWritesTwoDigitsPerByte :
    (9#4).toNat ≤ 9 ∧ 10 ≤ (10#4).toNat ∧ ([0x05#8] : List Byte)[0]? = some 0x05#8 := by decide

theorem witness_OutBytesPacksTheDigest :
    (running64 0).freeze.life = .finalized ∧ WidthOk (running64 0).freeze.cfgWidth ∧
    (serBytes (running64 0).freeze.digest 64 .lsbFirst)[7]? = some 0xFF#8 ∧ (running64 0).life ≠ .finalized := by decide

theorem witness_OutHexPacksTheDigits :
    (running16 0xBB3D#64).freeze.life = .finalized ∧ WidthOk (running16 0xBB3D#64).freeze.cfgWidth ∧
    (serHex (serBytes (running16 0xBB3D#64).freeze.digest 16 .lsbFirst))[3]? = some 'b' ∧
    State.reset.life ≠ .finalized := by decide

theorem witness_OneShotViewsAreBuiltAlike :
    ({ State.reset with ovalid := true } : State).ovalid = true ∧ State.reset.ovalid = false := by decide

theorem witness_ViewsOfTheTwoByteOrders :
    WidthOk 16#8 ∧ Fits 0xBB3D#64 16#8 ∧ 1 < (16#8).toNat / 8 ∧
    hexView 0xBB3D#64 16#8 .msbFirst = hexView 0xBB3D#64 16#8 .msbFirst := by decide

theorem witness_InitInstallsOrRejects :
    (State.reset.selectCfg .std16 = some Cfg.std16 ∧ Cfg.std16.Supported) ∧
    (State.reset.selectCfg .std64 = some Cfg.std64 ∧ Cfg.std64.Supported) ∧
    ((withArg 16#8 0xFFFF#64 0xFFFF#64).argCfg.Supported ∧ (withArg 64#8 0 0).argCfg.Supported) ∧
    (withArg 17#8 0 0).argCfg.check = some .width ∧ (withArg 16#8 0x10000#64 0).argCfg.check = some .poly ∧
    (withArg 16#8 0 0x10000#64).argCfg.check = some .seed := by decide

theorem witness_UpdbFoldsOneByte :
    (running16 0).life = .initialized ∧ State.reset.life ≠ .initialized ∧
    (running16 0).freeze.life ≠ .initialized := by decide

/-- The whole buffer, no byte at all, BUF_LEN above BUFCAP, ARG_LEN above BUF_LEN. -/
theorem witness_UpdateFoldsTheBuffer :
    ((running16 0).life = .initialized ∧ (running16 0).bufLen ≤ (running16 0).params.bufCap ∧
      (running16 0).length .bufLen ≤ (running16 0).bufLen) ∧
    ((withLen (running16 0) 0#32).length .argLen ≤ (withLen (running16 0) 0#32).bufLen) ∧
    State.reset.life ≠ .initialized ∧
    (({ running16 0 with bufLen := 65537#32 } : State).params.bufCap < 65537#32) ∧
    ((withLen (running16 0) 10#32).bufLen < (withLen (running16 0) 10#32).length .argLen) := by decide

theorem witness_FinalizeFreezesTheDigest :
    ((running64 0).life = .initialized ∧ WidthOk (running64 0).cfgWidth ∧
      Fits (running64 0).reg (running64 0).cfgWidth ∧ Fits (running64 0).cfgSeed (running64 0).cfgWidth) ∧
    State.reset.life ≠ .initialized := by decide

theorem witness_FinalizeHexFinalizesOnce :
    ((running16 0xFFFF#64).life = .initialized ∧ WidthOk (running16 0xFFFF#64).cfgWidth ∧
      Fits (running16 0xFFFF#64).reg (running16 0xFFFF#64).cfgWidth ∧
      Fits (running16 0xFFFF#64).cfgSeed (running16 0xFFFF#64).cfgWidth) ∧
    (running16 0).freeze.life = .finalized ∧ State.reset.life = .created := by decide

theorem witness_ComputeBufStoresTheResult :
    (withBuf.selectCfg .std64 = some Cfg.std64 ∧ Cfg.std64.Supported ∧ withBuf.bufLen ≤ withBuf.params.bufCap ∧
      withBuf.length .bufLen ≤ withBuf.bufLen) ∧
    (withArg 24#8 0 0).argCfg.check = some .width ∧
    (({ withBuf with bufLen := 65537#32 } : State).params.bufCap < 65537#32) ∧
    ((withLen withBuf 10#32).bufLen < (withLen withBuf 10#32).length .argLen) := by decide

theorem witness_ComputeSrcStoresTheResult :
    (State.reset.selectCfg .std16 = some Cfg.std16 ∧ Cfg.std16.Supported) ∧
    (withSrc State.reset (.opened [] .eof)).srcScript = .opened [] .eof ∧
    (withArg 8#8 0 0).argCfg.check = some .width ∧
    (withSrc State.reset .openFail).srcScript = .openFail ∧
    (withSrc State.reset (.opened [] .fail)).srcScript = .opened [] .fail := by decide

theorem witness_UnansweredSourceLeavesTheEngineWaiting :
    State.reset.selectCfg .std64 = some Cfg.std64 ∧ Cfg.std64.Supported ∧
    (withSrc State.reset .silent).srcScript = .silent ∧
    (withSrc State.reset (.opened [0x31#8] .silent)).srcScript = .opened [0x31#8] .silent := by decide

theorem witness_InvalidStateFollowsTheMatrix :
    State.reset.engine = .idle ∧
    nextWith (exec (.updb 0#8) State.reset) (fun t => t.engine = .idle && t.result = .invalidState) = true := by decide

theorem witness_FirstErrorInOrderIsReported :
    (¬ LegalWord 0x2131#16 ∧ nextWith (runWord 0x2131#16 State.reset) (fun _ => true) = true) ∧
    (State.reset.life ≠ .initialized ∧ nextWith (exec (.update .argLen) State.reset) (fun _ => true) = true) ∧
    ((running16 0).life = .initialized ∧ (running16 0).params.bufCap < 65537#32 ∧
      (withLen (running16 0) 10#32).bufLen < (withLen (running16 0) 10#32).length .argLen) ∧
    ¬ WidthOk (withArg 24#8 0 0).argCfg.width ∧
    ¬ Fits (withArg 16#8 0x10000#64 0x10000#64).argCfg.poly 16#8 ∧
    (Fits (withArg 16#8 0 0x10000#64).argCfg.poly 16#8 ∧ ¬ Fits (withArg 16#8 0 0x10000#64).argCfg.seed 16#8) ∧
    nextWith (exec (.computeSrc .std16) (withSrc State.reset .openFail)) (fun t =>
      t.engine = .idle && t.result = .ioFailure) = true := by
  unfold LegalWord; decide

theorem witness_FailingCommandKeepsTheRest :
    State.reset.engine = .idle ∧
    nextWith (exec (.computeSrc .std16) (withSrc State.reset .openFail)) (fun t =>
      t.engine = .idle && t.result ≠ .ok) = true := by decide

theorem witness_CompletionRecordIsWritten :
    State.reset.engine = .idle ∧
    nextWith (runWord 0x1400#16 State.reset) (fun t => t.engine = .idle && t.result = .ok) = true ∧
    nextWith (runWord 0x0000#16 State.reset) (fun t => t.engine = .idle && t.result = .illegalCommand) = true := by decide

theorem witness_ErrinfoLayouts :
    nextWith (exec .finalizeHex (running16 0)) (fun t => t.engine = .idle && t.result = .ok) = true := by decide

theorem witness_FailedOneShotExposesNothing :
    State.reset.engine = .idle ∧ (Instr.computeSrc .std16).wellFormed = true ∧
    (Instr.computeSrc .std16).isOneShot = true ∧
    nextWith (exec (.computeSrc .std16) (withSrc State.reset .openFail)) (fun t =>
      t.engine = .idle && t.result ≠ .ok) = true ∧
    nextWith (runWord 0x6C00#16 State.reset) (fun t => !t.ovalid) = true := by decide

theorem witness_OneShotIgnoresTheContext :
    (Instr.computeBuf .std64 .bufLen).isOneShot = true ∧ withBuf.engine = .idle ∧
    nextWith (exec (.computeBuf .std64 .bufLen) withBuf) (fun t => t.engine = .idle) = true := by decide

theorem nine_read : withBuf.BufReads nine := bufReads_of_written _ _ (by decide)

/-- A byte the host has not written. -/
theorem unwritten_read : ({ State.reset with bufLen := 1#32 } : State).BufReads [Config.freeByte 0 0] := by
  intro j hj
  obtain rfl : j = 0 := by simpa using hj
  rfl

theorem witness_OneShotEqualsStreaming :
    withBuf.selectCfg .std16 = some Cfg.std16 ∧ Cfg.std16.Supported ∧ withBuf.bufLen ≤ withBuf.params.bufCap ∧
    withBuf.length .bufLen ≤ withBuf.bufLen ∧ (withBuf.length .bufLen).toNat = nine.length ∧ withBuf.BufReads nine :=
  ⟨by decide, by decide, by decide, by decide, by decide, nine_read⟩

theorem witness_UpdateEqualsItsUpdbs :
    (running64 0).life = .initialized ∧ WidthOk (running64 0).cfgWidth ∧ Fits (running64 0).reg (running64 0).cfgWidth ∧
    (running64 0).bufLen ≤ (running64 0).params.bufCap ∧ (running64 0).length .bufLen ≤ (running64 0).bufLen ∧
    ((running64 0).length .bufLen).toNat = nine.length ∧ (running64 0).BufReads nine :=
  ⟨by decide, by decide, by decide, by decide, by decide, by decide, nine_read⟩

theorem witness_InitRestartsFromAnyContext :
    (withArg 16#8 0 0).argWidthHeld = true ∧ (withArg 16#8 0 0).argPolyHeld = true ∧
    (withArg 16#8 0 0).argSeedHeld = true ∧
    nextWith (exec (.init .arg) (withArg 16#8 0 0)) (fun t => t.result = .ok) = true := by decide

theorem witness_EmptyInputGivesZero :
    State.reset.selectCfg .std64 = some Cfg.std64 ∧ Cfg.std64.Supported ∧
    State.reset.selectCfg .std16 = some Cfg.std16 ∧ Cfg.std16.Supported := by decide

theorem witness_TableIsWrittenOnlyByInit :
    nextWith (step (doing (.cmd 0x1400#16))) (fun t => t.result = .ok) = true ∧
    nextWith (step (doing .reset)) (fun t => t.life = .created) = true := by decide

theorem witness_LifeCycleTransitions :
    nextWith (exec .finalize (running16 0)) (fun t => t.engine = .idle && t.result = .ok) = true ∧
    nextWith (exec .finalize State.reset) (fun t => t.engine = .idle && t.result ≠ .ok) = true ∧
    nextWith (step (doing (.cmd 0x1800#16))) (fun t => t.life = .initialized) = true := by decide

theorem witness_CommandsKeepTheHostsStorage :
    nextWith (exec (.update .bufLen) (running16 0)) (fun t => t.bufLen = 9#32) = true := by decide

theorem witness_ErrlogIsSticky :
    nextWith (step (doing (.cmd 0x2031#16))) (fun t => t.errlog = 0b00100#5) = true ∧
    (∀ rest, (doing (.cmd 0x2031#16)).host ≠ .reset :: rest) ∧
    State.reset.engine = .idle ∧
    nextWith (runWord 0x0000#16 State.reset) (fun t => t.engine = .idle && t.result ≠ .ok) = true ∧
    (doing .reset).host = .reset :: [] :=
  ⟨by decide, fun rest h => by simp [doing] at h, by decide, by decide, by decide⟩

theorem running_in_range : RangeInv (running64 0xFFFFFFFFFFFFFFFF#64) :=
  ⟨fun _ => ⟨by decide, by decide, by decide, by decide, fun i => (lookup Cfg.std64.table i).isLt⟩, fun h => nomatch h⟩

theorem witness_StepKeepsTheRangeInvariant :
    RangeInv { running64 0xFFFFFFFFFFFFFFFF#64 with host := [.cmd 0x4000#16] } ∧
    nextWith (step { running64 0xFFFFFFFFFFFFFFFF#64 with host := [.cmd 0x4000#16] }) (fun t =>
      t.life = .finalized) = true :=
  ⟨running_in_range, by decide⟩

theorem witness_StepKeepsTheInvariant :
    State.Inv { running64 0xFFFFFFFFFFFFFFFF#64 with host := [.wrBuf 65535 0x00#8] } ∧
    nextWith (step { running64 0xFFFFFFFFFFFFFFFF#64 with host := [.wrBuf 65535 0x00#8] }) (fun t =>
      t.buf.read 65535 = some 0x00#8) = true :=
  ⟨⟨running_in_range, fun _ i => by simp [running64, State.install], by unfold FrozenInv; decide, by unfold OneShotInv; decide,
    by unfold ErrlogInv; decide, by unfold BufInv; decide⟩, by decide⟩

theorem witness_ByteOrderDecidesOnlyTheViews :
    nextWith (step (doing (.cmd 0x1400#16))) (fun t => t.params = Params.shown) = true ∧
    nextWith (exec .finalize (running16 0)) (fun _ => true) = true ∧
    Reg.digest ∉ [Reg.outBytes, .outHex, .ooutBytes, .ooutHex] := by decide

theorem witness_HostWriteReachesItsRegisterOnly :
    (doing (.wr .argPoly 0xA001#64)).engine = .idle ∧
    (doing (.wr .argPoly 0xA001#64)).host = .wr .argPoly 0xA001#64 :: [] ∧
    Reg.argPoly ∈ [Reg.argWidth, .argPoly, .argSeed, .argLen, .bufLen] ∧
    Reg.state ∉ [Reg.argWidth, .argPoly, .argSeed, .argLen, .bufLen] ∧ Reg.state ≠ Reg.argPoly ∧
    (doing (.wrUnmapped 0 1#128)).host = .wrUnmapped 0 1#128 :: [] := by decide

theorem witness_ReadsHaveNoSideEffect :
    (doing (.rd .errinfo)).host = .rd .errinfo :: [] ∧ (doing (.rdTable 0xFF#8)).host = .rdTable 0xFF#8 :: [] ∧
    (doing (.wrTable 0#8 1#64)).host = .wrTable 0#8 1#64 :: [] ∧ (doing (.rd .errinfo)).engine = .idle ∧
    (doing (.rdUnmapped 0)).host = .rdUnmapped 0 :: [] ∧ (doing (.src .openFail)).host = .src .openFail :: [] := by decide

theorem witness_ValuelessReadsAreFree :
    State.reset.holds .owidth = false ∧ State.reset.holds .argLen = false ∧ (running16 0).holds .digest = false ∧
    State.reset.holds .bufLen = true ∧ (running16 0).freeze.holds .outHex = true ∧
    State.reset.life = .created ∧ (running16 0).life ≠ .created ∧ withBuf.buf.read 9 = none ∧ withBuf.buf.read 8 = some 0x39#8 := by decide

/-- The last offset of BUF and the first one past it. -/
theorem witness_HostAccessToTheBuffer :
    ((doing (.wrBuf 65535 1#8)).host = .wrBuf 65535 1#8 :: [] ∧
      65535 < (doing (.wrBuf 65535 1#8)).params.bufCap.toNat) ∧
    ((doing (.rdBuf 65535)).host = .rdBuf 65535 :: [] ∧ (doing (.rdBuf 65535)).engine = .idle) ∧
    ((doing (.wrBuf 65536 1#8)).host = .wrBuf 65536 1#8 :: [] ∧
      (doing (.wrBuf 65536 1#8)).params.bufCap.toNat ≤ 65536) ∧
    (doing (.rdBuf 65536)).host = .rdBuf 65536 :: [] := by decide

theorem witness_QuietAndWaitingBlocksHoldTheirState :
    State.reset.host = [] ∧
    ({ doing (.rd .result) with engine := .waiting } : State).engine = .waiting ∧
    ({ doing (.rd .result) with engine := .waiting } : State).host = .rd .result :: [] ∧
    HostAction.rd .result ≠ .reset := by decide

theorem witness_PseudoCommandsExpand :
    ∀ c ∈ ['1', ' ', ';', '~'], c.toNat < 128 ∧ c ≠ '"' := by simp

end Sys2Proof.Tests
end

section
/-! PROOFS. Scope (`00_scope.md`): BYTE_ORDER is a constant that decides the four output views and nothing else. -/

namespace Sys2Proof.Machine

open Sys2Proof

/-! ### No step changes the parameters (`00_scope.md` R6, R7) -/

/-- Every effect of a command leaves BYTE_ORDER and BUFCAP alone. -/
theorem Effect.params_eq {i : Instr} {s t : State} (h : Effect i s t) : t.params = s.params := by
  cases h <;> rfl

theorem step_params {s t : State} (h : step s = .next t) : t.params = s.params := by
  cases step_did s t h with
  | command w rest hh he i hd t ht => exact (exec_effect i (s.pop rest) t ht).params_eq
  | wrote => exact State.writeReg_params ..
  | _ => rfl

/-! ### The same block with the other BYTE_ORDER

The simp lemmas move `withOrder` outwards, past every operation of a command, and drop it where an operand is read. -/

/-- The same state in a block whose BYTE_ORDER is `order`. -/
def State.withOrder (s : State) (order : ByteOrder) : State :=
  { s with params := { s.params with byteOrder := order } }

section

variable (s : State) (order : ByteOrder)

@[simp] theorem State.withOrder_life : (s.withOrder order).life = s.life := rfl

@[simp] theorem State.withOrder_draws : (s.withOrder order).draws = s.draws := rfl

@[simp] theorem State.holds_withOrder (r : Reg) : (s.withOrder order).holds r = s.holds r := by
  cases r <;> rfl

/-- Only the four views are computed from BYTE_ORDER (`10_state.md` R17, R18, R20). -/
theorem State.content_withOrder {r : Reg} (hr : r ∉ [Reg.outBytes, .outHex, .ooutBytes, .ooutHex]) :
    (s.withOrder order).content r = s.content r := by
  cases r with
  | outBytes | outHex | ooutBytes | ooutHex => simp at hr
  | _ => rfl

theorem State.readReg_withOrder {r : Reg} (hr : r ∉ [Reg.outBytes, .outHex, .ooutBytes, .ooutHex]) :
    (s.withOrder order).readReg r = s.readReg r := by
  simp [State.readReg, State.content_withOrder s order hr]

@[simp] theorem State.selectCfg_withOrder (c : CfgSel) : (s.withOrder order).selectCfg c = s.selectCfg c := by
  cases c <;> rfl

@[simp] theorem State.effectiveLength_withOrder (l : LenSel) :
    (s.withOrder order).effectiveLength l = s.effectiveLength l := by
  cases l <;> rfl

@[simp] theorem State.bufBytes_withOrder (n : Nat) : (s.withOrder order).bufBytes n = s.bufBytes n := rfl

@[simp] theorem State.srcScript_withOrder : (s.withOrder order).srcScript = s.srcScript := rfl

@[simp] theorem State.completeOk_withOrder :
    (s.withOrder order).completeOk = s.completeOk.withOrder order := rfl

@[simp] theorem State.raise_withOrder (e : CmdError) :
    (s.withOrder order).raise e = (s.raise e).withOrder order := rfl

@[simp] theorem State.raiseOneShot_withOrder (e : CmdError) :
    (s.withOrder order).raiseOneShot e = (s.raiseOneShot e).withOrder order := rfl

@[simp] theorem State.install_withOrder (c : Cfg) :
    (s.withOrder order).install c = (s.install c).withOrder order := rfl

@[simp] theorem State.absorb_withOrder (bytes : List Byte) :
    (s.withOrder order).absorb bytes = (s.absorb bytes).withOrder order := rfl

@[simp] theorem State.freeze_withOrder :
    (s.withOrder order).freeze = s.freeze.withOrder order := rfl

@[simp] theorem State.storeOneShot_withOrder (c : Cfg) (r : BitVec c.width.toNat) :
    (s.withOrder order).storeOneShot c r = (s.storeOneShot c r).withOrder order := rfl

@[simp] theorem State.useSrc_withOrder :
    (s.withOrder order).useSrc = s.useSrc.withOrder order := rfl

@[simp] theorem State.waitForSrc_withOrder :
    (s.withOrder order).waitForSrc = s.waitForSrc.withOrder order := rfl

end

/-! ### A command does the same with either BYTE_ORDER -/

section

variable {s t : State} (order : ByteOrder)

theorem execInit_withOrder {c : CfgSel} (h : execInit c s = .next t) :
    execInit c (s.withOrder order) = .next (t.withOrder order) := by
  cases h
  simp only [execInit, State.selectCfg_withOrder]
  cases s.selectCfg c with
  | none => simp
  | some cfg => cases hk : cfg.check <;> simp [hk]

theorem execUpdb_withOrder {b : Byte} (h : execUpdb b s = .next t) :
    execUpdb b (s.withOrder order) = .next (t.withOrder order) := by
  cases h
  by_cases hl : s.life = .initialized <;> simp [execUpdb, hl]

theorem execUpdate_withOrder {l : LenSel} (h : execUpdate l s = .next t) :
    execUpdate l (s.withOrder order) = .next (t.withOrder order) := by
  cases h
  by_cases hl : s.life = .initialized
  · cases hn : s.effectiveLength l <;> simp [execUpdate, hl, hn]
  · simp [execUpdate, hl]

theorem execFinalize_withOrder (h : execFinalize s = .next t) :
    execFinalize (s.withOrder order) = .next (t.withOrder order) := by
  cases h
  by_cases hl : s.life = .initialized <;> simp [execFinalize, hl]

theorem execFinalizeHex_withOrder (h : execFinalizeHex s = .next t) :
    execFinalizeHex (s.withOrder order) = .next (t.withOrder order) := by
  cases h
  cases hl : s.life <;> simp [execFinalizeHex, hl]

theorem execComputeBuf_withOrder {c : CfgSel} {l : LenSel} (h : execComputeBuf c l s = .next t) :
    execComputeBuf c l (s.withOrder order) = .next (t.withOrder order) := by
  cases h
  simp only [execComputeBuf, State.selectCfg_withOrder]
  cases s.selectCfg c with
  | none => simp
  | some cfg =>
    cases hk : cfg.check with
    | some cause => simp [hk]
    | none => cases hn : s.effectiveLength l <;> simp [hk, hn]

theorem execComputeSrc_withOrder {c : CfgSel} (h : execComputeSrc c s = .next t) :
    execComputeSrc c (s.withOrder order) = .next (t.withOrder order) := by
  cases h
  simp only [execComputeSrc, State.selectCfg_withOrder]
  cases s.selectCfg c with
  | none => simp
  | some cfg =>
    cases hk : cfg.check with
    | some cause => simp [hk]
    | none => cases hr : srcRun cfg.entries cfg.start s.srcScript <;> simp [hk, hr]

theorem exec_withOrder {i : Instr} (h : exec i s = .next t) :
    exec i (s.withOrder order) = .next (t.withOrder order) := by
  cases i with
  | init c => exact execInit_withOrder order h
  | updb b => exact execUpdb_withOrder order h
  | update l => exact execUpdate_withOrder order h
  | finalize => exact execFinalize_withOrder order h
  | finalizeHex => exact execFinalizeHex_withOrder order h
  | computeBuf c l => exact execComputeBuf_withOrder order h
  | computeSrc c => exact execComputeSrc_withOrder order h

end

/-- Settles O53: the parameters pass through every step, a command commutes with a change of BYTE_ORDER, and only the
four views read it. -/
theorem byteOrderDecidesOnlyTheViews : Obligations.ByteOrderDecidesOnlyTheViews :=
  ⟨rfl, fun _ _ h => step_params h, fun _ _ _ order h => exec_withOrder order h,
    fun s order _ hr => State.readReg_withOrder s order hr⟩

end Sys2Proof.Machine
end

section
/-! PROOFS. State (`10_state.md`): a failing command adds its bit to ERRLOG, and nothing but reset takes a bit away. -/

namespace Sys2Proof.Machine

open Sys2Proof

/-! ### Setting a bit of ERRLOG (`10_state.md` R25) -/

/-- Every result code has its bit in the five bits of ERRLOG. -/
theorem ResultCode.code_lt_five (c : ResultCode) : c.code.toNat < 5 := by
  cases c <;> decide

theorem CmdError.result_code_ne_zero (e : CmdError) : e.result.code.toNat ≠ 0 := by
  cases e <;> simp [CmdError.result, ResultCode.code]

@[simp] theorem getLsbD_errlogSet (log : BitVec 5) (c : ResultCode) (k : Nat) :
    (errlogSet log c).getLsbD k = (log.getLsbD k || decide (k = c.code.toNat)) := by
  rw [errlogSet, ← BitVec.twoPow_eq, BitVec.getLsbD_or, BitVec.getLsbD_twoPow]
  simp [c.code_lt_five, eq_comm]

/-- A later value of ERRLOG has every bit of the earlier one, and bit 0 is not among the bits added. -/
def ErrlogGrows (earlier later : BitVec 5) : Prop :=
  (∀ k, earlier.getLsbD k = true → later.getLsbD k = true) ∧ (earlier.getLsbD 0 = false → later.getLsbD 0 = false)

theorem ErrlogGrows.refl (log : BitVec 5) : ErrlogGrows log log := ⟨fun _ h => h, fun h => h⟩

theorem errlogGrows_errlogSet (log : BitVec 5) (e : CmdError) : ErrlogGrows log (errlogSet log e.result) :=
  ⟨fun _ hk => by simp [hk], fun h0 => by rw [getLsbD_errlogSet, h0, decide_eq_false e.result_code_ne_zero.symm]; rfl⟩

/-! ### What a command can do to ERRLOG and RESULT (`60_exceptions.md` R112) -/

/-- The two things a command from `s` to `t` can do to ERRLOG, with the RESULT it leaves. A command that is left waiting
keeps ERRLOG and has no RESULT of its own yet. -/
inductive Recorded (s t : State) : Prop where
  | kept (hlog : t.errlog = s.errlog) (hok : t.engine = .idle → t.result = .ok)
  | raised (e : CmdError) (hlog : t.errlog = errlogSet s.errlog e.result) (hres : t.result = e.result)

theorem Effect.recorded {i : Instr} {s t : State} (h : Effect i s t) : Recorded s t := by
  cases h with
  | illegal | badArgument | badState | badOneShot | badSource => exact .raised _ rfl rfl
  | installed | absorbed | froze | reread | stored | storedFromSrc => exact .kept rfl fun _ => rfl
  | waits => exact .kept rfl fun hidle => by simp at hidle

theorem runWord_recorded {w : CmdWord} {s t : State} (h : runWord w s = .next t) : Recorded s t := by
  unfold runWord at h
  split at h
  · next i _ => exact (exec_effect i s t h).recorded
  · cases h; exact .raised _ rfl rfl

theorem Recorded.errlogGrows {s t : State} (h : Recorded s t) : ErrlogGrows s.errlog t.errlog := by
  cases h with
  | kept hlog => rw [hlog]; exact .refl _
  | raised e hlog => rw [hlog]; exact errlogGrows_errlogSet _ e

theorem Recorded.errlog_result {s t : State} (h : Recorded s t) (hidle : t.engine = .idle) (hfail : t.result ≠ .ok) :
    t.errlog.getLsbD t.result.code.toNat = true := by
  cases h with
  | kept _ hok => exact absurd (hok hidle) hfail
  | raised e hlog hres => simp [hlog, hres]

/-! ### ERRLOG over a step (`10_state.md` R25) -/

theorem step_errlogGrows {s t : State} (h : step s = .next t) (hreset : ∀ rest, s.host ≠ .reset :: rest) :
    ErrlogGrows s.errlog t.errlog := by
  cases step_did s t h with
  | reset rest hh => exact absurd hh (hreset rest)
  | command w rest hh he i hd t ht => exact (exec_effect i (s.pop rest) t ht).recorded.errlogGrows
  | illegal => exact errlogGrows_errlogSet _ _
  | wrote => rw [State.writeReg_errlog]; exact .refl _
  | quiet | ignored | replied | wroteBuf | named => exact .refl _

/-- The external reset is taken whatever the engine does (`70_reset_and_hazards.md` R123). -/
theorem step_reset {s : State} {rest : List HostAction} (h : s.host = .reset :: rest) :
    step s = .next (s.pop rest).applyReset := by
  simp [step, portsOf, h, hostAccess]

/-- Settles O50: a step that is no reset keeps ERRLOG or raises an error, an error sets the bit of its code and no code is
0, and a reset writes 0. -/
theorem errlogIsSticky : Obligations.ErrlogIsSticky :=
  ⟨fun _ _ h hreset => step_errlogGrows h hreset,
    fun _ _ _ _ h hidle hfail => (runWord_recorded h).errlog_result hidle hfail,
    fun _ _ h => ⟨_, step_reset h, rfl⟩⟩

end Sys2Proof.Machine
end

section
/-! PROOFS. Encoding (`30_encoding.md`): a word as the row of its fields, decoder and encoder as two readings of one
relation, the rows and the legal words, and the pseudo-commands. -/

namespace Sys2Proof

/-! ### A word as the row of its fields (`30_encoding.md` R54, R55) -/

/-- An appended pair is a slice of `w` exactly when each part is its part of the slice. -/
theorem append_eq_slice_iff {m n W : Nat} (a : BitVec m) (b : BitVec n) (w : BitVec W) (s : Nat) :
    a ++ b = w.extractLsb' s (m + n) ↔ w.extractLsb' (s + n) m = a ∧ w.extractLsb' s n = b := by
  rw [← BitVec.extractLsb'_append_extractLsb'_eq_extractLsb' rfl]
  constructor
  · intro h
    have hhi := congrArg (BitVec.extractLsb' n m) h
    have hlo := congrArg (BitVec.extractLsb' 0 n) h
    simp only [BitVec.extractLsb'_append_eq_left, BitVec.extractLsb'_append_eq_right] at hhi hlo
    exact ⟨hhi.symm, hlo.symm⟩
  · rintro ⟨rfl, rfl⟩; rfl

theorem append_eq_iff {m n : Nat} (a : BitVec m) (b : BitVec n) (w : BitVec (m + n)) :
    a ++ b = w ↔ w.extractLsb' n m = a ∧ w.extractLsb' 0 n = b := by
  simpa using append_eq_slice_iff a b w 0

theorem formatZ_eq_iff (op : BitVec 4) (low : BitVec 12) (w : CmdWord) :
    op ++ low = w ↔ opField w = op ∧ w.extractLsb' 0 12 = low :=
  append_eq_iff op low w

theorem formatI_eq_iff (op mid : BitVec 4) (b : Byte) (w : CmdWord) :
    op ++ mid ++ b = w ↔ opField w = op ∧ w.extractLsb' 8 4 = mid ∧ imm8Field w = b := by
  rw [append_eq_iff, eq_comm, append_eq_slice_iff, and_assoc]; rfl

theorem formatC_eq_iff (op : BitVec 4) (c : BitVec 2) (low : BitVec 10) (w : CmdWord) :
    op ++ c ++ low = w ↔ opField w = op ∧ cfgselField w = c ∧ w.extractLsb' 0 10 = low := by
  rw [append_eq_iff, eq_comm, append_eq_slice_iff, and_assoc]; rfl

theorem formatCL_eq_iff (op : BitVec 4) (c : BitVec 2) (l : BitVec 1) (low : BitVec 9) (w : CmdWord) :
    op ++ c ++ l ++ low = w ↔
      opField w = op ∧ cfgselField w = c ∧ lenselField w = l ∧ w.extractLsb' 0 9 = low := by
  rw [append_eq_iff, eq_comm, append_eq_slice_iff, eq_comm, append_eq_slice_iff, and_assoc, and_assoc]; rfl

/-! ### The masks of the formats (`30_encoding.md` R56) -/

theorem and_of_eq_allOnes {n : Nat} {m : BitVec n} (h : m = BitVec.allOnes n) (x : BitVec n) : x &&& m = x := by
  rw [h, BitVec.and_allOnes]

theorem maskZ_eq_iff (v w : CmdWord) : w &&& 0xFFFF#16 = v ↔ v = w := by
  rw [and_of_eq_allOnes (m := 0xFFFF#16) rfl, eq_comm]

theorem maskI_eq_iff (op : BitVec 4) (w : CmdWord) :
    w &&& 0xFF00#16 = op ++ 0#4 ++ 0#8 ↔ opField w = op ∧ w.extractLsb' 8 4 = 0#4 := by
  rw [eq_comm, formatI_eq_iff]
  simp [opField, imm8Field, BitVec.extractLsb'_and, and_of_eq_allOnes]

theorem maskC_eq_iff (op : BitVec 4) (w : CmdWord) :
    w &&& 0xF3FF#16 = op ++ 0#2 ++ 0#10 ↔ opField w = op ∧ w.extractLsb' 0 10 = 0#10 := by
  rw [eq_comm, formatC_eq_iff]
  simp [opField, cfgselField, BitVec.extractLsb'_and, and_of_eq_allOnes]

theorem maskL_eq_iff (op : BitVec 4) (w : CmdWord) :
    w &&& 0xFDFF#16 = op ++ 0#2 ++ 0#1 ++ 0#9 ↔
      opField w = op ∧ cfgselField w = 0#2 ∧ w.extractLsb' 0 9 = 0#9 := by
  rw [eq_comm, formatCL_eq_iff]
  simp [opField, cfgselField, lenselField, BitVec.extractLsb'_and, and_of_eq_allOnes]

theorem maskCL_eq_iff (op : BitVec 4) (w : CmdWord) :
    w &&& 0xF1FF#16 = op ++ 0#2 ++ 0#1 ++ 0#9 ↔ opField w = op ∧ w.extractLsb' 0 9 = 0#9 := by
  rw [eq_comm, formatCL_eq_iff]
  simp [opField, cfgselField, lenselField, BitVec.extractLsb'_and, and_of_eq_allOnes]

/-! ### The operand fields (`30_encoding.md` R58, R59) -/

@[simp] theorem CfgSel.bits_ofBits (b : BitVec 2) : (CfgSel.ofBits b).bits = b := by
  revert b; decide

@[simp] theorem LenSel.bits_ofBits (b : BitVec 1) : (LenSel.ofBits b).bits = b := by
  revert b; decide

@[simp] theorem CfgSel.wellFormed_ofBits (b : BitVec 2) : (CfgSel.ofBits b).wellFormed = true ↔ b ≠ 3#2 := by
  revert b; decide

theorem CfgSel.eq_of_wellFormed {c : CfgSel} (h : c.wellFormed = true) : c = .arg ∨ c = .std16 ∨ c = .std64 := by
  cases c with
  | reserved => cases h
  | _ => simp

/-- The field constraint of R56 as a statement about the field. -/
theorem CfgSel.exists_bits_eq_iff (b : BitVec 2) : (∃ c : CfgSel, c.wellFormed = true ∧ c.bits = b) ↔ b ≠ 3#2 := by
  constructor
  · rintro ⟨c, hc, rfl⟩
    obtain rfl | rfl | rfl := CfgSel.eq_of_wellFormed hc <;> decide
  · exact fun h => ⟨CfgSel.ofBits b, (CfgSel.wellFormed_ofBits b).2 h, CfgSel.bits_ofBits b⟩

theorem LenSel.exists_bits_eq (b : BitVec 1) : ∃ l : LenSel, l.bits = b :=
  ⟨LenSel.ofBits b, LenSel.bits_ofBits b⟩

/-! ### What the decoder accepts (`30_encoding.md` R62) -/

theorem encode_of_decodeInit {w : CmdWord} {i : Instr} (hop : opField w = 0x1#4) (h : decodeInit w = .ok i) :
    i.wellFormed = true ∧ encode i = w := by
  unfold decodeInit at h
  split_ifs at h with hlow hcfg
  cases h
  exact ⟨(CfgSel.wellFormed_ofBits _).2 hcfg,
    (formatC_eq_iff ..).2 ⟨hop, (CfgSel.bits_ofBits _).symm, not_not.1 hlow⟩⟩

theorem encode_of_decodeUpdb {w : CmdWord} {i : Instr} (hop : opField w = 0x2#4) (h : decodeUpdb w = .ok i) :
    i.wellFormed = true ∧ encode i = w := by
  unfold decodeUpdb at h
  split_ifs at h with hmid
  cases h
  exact ⟨rfl, (formatI_eq_iff ..).2 ⟨hop, not_not.1 hmid, rfl⟩⟩

theorem encode_of_decodeUpdate {w : CmdWord} {i : Instr} (hop : opField w = 0x3#4) (h : decodeUpdate w = .ok i) :
    i.wellFormed = true ∧ encode i = w := by
  unfold decodeUpdate at h
  split_ifs at h with hzero
  cases h
  obtain ⟨hcfg, hlow⟩ := not_or.1 hzero
  exact ⟨rfl, (formatCL_eq_iff ..).2 ⟨hop, not_not.1 hcfg, (LenSel.bits_ofBits _).symm, not_not.1 hlow⟩⟩

theorem encode_of_decodeFinalize {w : CmdWord} {i : Instr} (hop : opField w = 0x4#4) (h : decodeFinalize w = .ok i) :
    i.wellFormed = true ∧ encode i = w := by
  unfold decodeFinalize at h
  split_ifs at h with hlow
  cases h
  exact ⟨rfl, (formatZ_eq_iff ..).2 ⟨hop, not_not.1 hlow⟩⟩

theorem encode_of_decodeFinalizeHex {w : CmdWord} {i : Instr} (hop : opField w = 0x5#4)
    (h : decodeFinalizeHex w = .ok i) : i.wellFormed = true ∧ encode i = w := by
  unfold decodeFinalizeHex at h
  split_ifs at h with hlow
  cases h
  exact ⟨rfl, (formatZ_eq_iff ..).2 ⟨hop, not_not.1 hlow⟩⟩

theorem encode_of_decodeComputeBuf {w : CmdWord} {i : Instr} (hop : opField w = 0x6#4)
    (h : decodeComputeBuf w = .ok i) : i.wellFormed = true ∧ encode i = w := by
  unfold decodeComputeBuf at h
  split_ifs at h with hlow hcfg
  cases h
  exact ⟨(CfgSel.wellFormed_ofBits _).2 hcfg,
    (formatCL_eq_iff ..).2 ⟨hop, (CfgSel.bits_ofBits _).symm, (LenSel.bits_ofBits _).symm, not_not.1 hlow⟩⟩

theorem encode_of_decodeComputeSrc {w : CmdWord} {i : Instr} (hop : opField w = 0x7#4)
    (h : decodeComputeSrc w = .ok i) : i.wellFormed = true ∧ encode i = w := by
  unfold decodeComputeSrc at h
  split_ifs at h with hlow hcfg
  cases h
  exact ⟨(CfgSel.wellFormed_ofBits _).2 hcfg,
    (formatC_eq_iff ..).2 ⟨hop, (CfgSel.bits_ofBits _).symm, not_not.1 hlow⟩⟩

theorem encode_of_decode {w : CmdWord} {i : Instr} (h : decode w = .ok i) : i.wellFormed = true ∧ encode i = w := by
  unfold decode at h
  split_ifs at h with h1 h2 h3 h4 h5 h6 h7
  · exact encode_of_decodeInit h1 h
  · exact encode_of_decodeUpdb h2 h
  · exact encode_of_decodeUpdate h3 h
  · exact encode_of_decodeFinalize h4 h
  · exact encode_of_decodeFinalizeHex h5 h
  · exact encode_of_decodeComputeBuf h6 h
  · exact encode_of_decodeComputeSrc h7 h

theorem decode_encode_updb (b : Byte) : decode (encode (.updb b)) = .ok (.updb b) := by
  obtain ⟨hop, hmid, himm⟩ := (formatI_eq_iff 0x2#4 0#4 b (encode (.updb b))).1 rfl
  simp [decode, decodeUpdb, hop, hmid, himm]

theorem decode_encode {i : Instr} (h : i.wellFormed = true) : decode (encode i) = .ok i := by
  cases i with
  | init c => obtain rfl | rfl | rfl := CfgSel.eq_of_wellFormed h <;> rfl
  | updb b => exact decode_encode_updb b
  | update l => cases l <;> rfl
  | finalize | finalizeHex => rfl
  | computeBuf c l => obtain rfl | rfl | rfl := CfgSel.eq_of_wellFormed h <;> cases l <;> rfl
  | computeSrc c => obtain rfl | rfl | rfl := CfgSel.eq_of_wellFormed h <;> rfl

/-- Decoder and encoder are two readings of one relation. -/
theorem decode_eq_ok_iff {w : CmdWord} {i : Instr} : decode w = .ok i ↔ i.wellFormed = true ∧ encode i = w :=
  ⟨encode_of_decode, fun ⟨hwf, henc⟩ => henc ▸ decode_encode hwf⟩

/-! ### The rows (`30_encoding.md` R56) -/

/-- A row whose field constraint always holds: the operand alone picks the word. -/
theorem exists_decode_iff {α : Type} (f : α → Instr) (hwf : ∀ a, (f a).wellFormed = true) (w : CmdWord) :
    (∃ a, decode w = .ok (f a)) ↔ ∃ a, encode (f a) = w :=
  exists_congr fun a => decode_eq_ok_iff.trans (and_iff_right (hwf a))

theorem decode_updb_iff (w : CmdWord) : (∃ b, decode w = .ok (.updb b)) ↔ w &&& 0xFF00#16 = 0x2000#16 :=
  calc (∃ b, decode w = .ok (.updb b))
    _ ↔ ∃ b, 0x2#4 ++ 0#4 ++ b = w := exists_decode_iff .updb (fun _ => rfl) w
    _ ↔ opField w = 0x2#4 ∧ w.extractLsb' 8 4 = 0#4 := by simp only [formatI_eq_iff]; simp
    _ ↔ w &&& 0xFF00#16 = 0x2000#16 := (maskI_eq_iff 0x2#4 w).symm

theorem decode_update_iff (w : CmdWord) : (∃ l, decode w = .ok (.update l)) ↔ w &&& 0xFDFF#16 = 0x3000#16 :=
  calc (∃ l, decode w = .ok (.update l))
    _ ↔ ∃ l : LenSel, 0x3#4 ++ 0#2 ++ l.bits ++ 0#9 = w := exists_decode_iff .update (fun _ => rfl) w
    _ ↔ opField w = 0x3#4 ∧ cfgselField w = 0#2 ∧ w.extractLsb' 0 9 = 0#9 := by
      simp only [formatCL_eq_iff, eq_comm (a := lenselField w)]; simp [LenSel.exists_bits_eq]
    _ ↔ w &&& 0xFDFF#16 = 0x3000#16 := (maskL_eq_iff 0x3#4 w).symm

theorem decode_finalize_iff (w : CmdWord) : decode w = .ok .finalize ↔ w &&& 0xFFFF#16 = 0x4000#16 :=
  decode_eq_ok_iff.trans ((and_iff_right rfl).trans (maskZ_eq_iff 0x4000#16 w).symm)

theorem decode_finalizeHex_iff (w : CmdWord) : decode w = .ok .finalizeHex ↔ w &&& 0xFFFF#16 = 0x5000#16 :=
  decode_eq_ok_iff.trans ((and_iff_right rfl).trans (maskZ_eq_iff 0x5000#16 w).symm)

/-- Format C, the field constraint included. -/
theorem formatC_row (op : BitVec 4) (w : CmdWord) :
    (∃ c : CfgSel, c.wellFormed = true ∧ op ++ c.bits ++ 0#10 = w) ↔
      w &&& 0xF3FF#16 = op ++ 0#2 ++ 0#10 ∧ cfgselField w ≠ 3#2 := by
  rw [maskC_eq_iff, ← CfgSel.exists_bits_eq_iff]
  constructor
  · rintro ⟨c, hc, hw⟩
    obtain ⟨hop, hbits, hlow⟩ := (formatC_eq_iff ..).1 hw
    exact ⟨⟨hop, hlow⟩, c, hc, hbits.symm⟩
  · rintro ⟨⟨hop, hlow⟩, c, hc, hbits⟩
    exact ⟨c, hc, (formatC_eq_iff ..).2 ⟨hop, hbits.symm, hlow⟩⟩

theorem decode_init_iff (w : CmdWord) :
    (∃ c, decode w = .ok (.init c)) ↔ w &&& 0xF3FF#16 = 0x1000#16 ∧ cfgselField w ≠ 3#2 := by
  simp only [decode_eq_ok_iff]
  exact formatC_row 0x1#4 w

theorem decode_computeSrc_iff (w : CmdWord) :
    (∃ c, decode w = .ok (.computeSrc c)) ↔ w &&& 0xF3FF#16 = 0x7000#16 ∧ cfgselField w ≠ 3#2 := by
  simp only [decode_eq_ok_iff]
  exact formatC_row 0x7#4 w

/-- Format CL, the field constraint included. -/
theorem formatCL_row (op : BitVec 4) (w : CmdWord) :
    (∃ (c : CfgSel) (l : LenSel), c.wellFormed = true ∧ op ++ c.bits ++ l.bits ++ 0#9 = w) ↔
      w &&& 0xF1FF#16 = op ++ 0#2 ++ 0#1 ++ 0#9 ∧ cfgselField w ≠ 3#2 := by
  rw [maskCL_eq_iff, ← CfgSel.exists_bits_eq_iff]
  constructor
  · rintro ⟨c, l, hc, hw⟩
    obtain ⟨hop, hbits, -, hlow⟩ := (formatCL_eq_iff ..).1 hw
    exact ⟨⟨hop, hlow⟩, c, hc, hbits.symm⟩
  · rintro ⟨⟨hop, hlow⟩, c, hc, hbits⟩
    obtain ⟨l, hl⟩ := LenSel.exists_bits_eq (lenselField w)
    exact ⟨c, l, hc, (formatCL_eq_iff ..).2 ⟨hop, hbits.symm, hl.symm, hlow⟩⟩

theorem decode_computeBuf_iff (w : CmdWord) :
    (∃ c l, decode w = .ok (.computeBuf c l)) ↔ w &&& 0xF1FF#16 = 0x6000#16 ∧ cfgselField w ≠ 3#2 := by
  simp only [decode_eq_ok_iff]
  exact formatCL_row 0x6#4 w

end Sys2Proof

namespace Sys2Proof.Machine

open Sys2Proof

/-! ### The legal words (`30_encoding.md` R56) -/

theorem encode_updb_eq_add (b : Byte) : encode (.updb b) = 0x2000#16 + b.setWidth 16 := by
  revert b; decide

theorem legalWord_encode {i : Instr} (h : i.wellFormed = true) : LegalWord (encode i) := by
  cases i with
  | init c => left; obtain rfl | rfl | rfl := CfgSel.eq_of_wellFormed h <;> decide
  | updb b => exact .inr ⟨b, encode_updb_eq_add b⟩
  | update l => left; cases l <;> decide
  | finalize | finalizeHex => left; decide
  | computeBuf c l => left; obtain rfl | rfl | rfl := CfgSel.eq_of_wellFormed h <;> cases l <;> decide
  | computeSrc c => left; obtain rfl | rfl | rfl := CfgSel.eq_of_wellFormed h <;> decide

theorem decode_updb_word (b : Byte) : decode (0x2000#16 + b.setWidth 16) = .ok (.updb b) := by
  rw [← encode_updb_eq_add, decode_encode rfl]

theorem decode_of_legalWord {w : CmdWord} (h : LegalWord w) : ∃ i, decode w = .ok i := by
  rcases h with hlist | ⟨b, rfl⟩
  · fin_cases hlist <;> exact ⟨_, rfl⟩
  · exact ⟨_, decode_updb_word b⟩

theorem decode_ok_iff_legalWord (w : CmdWord) : (∃ i, decode w = .ok i) ↔ LegalWord w := by
  constructor
  · rintro ⟨i, hi⟩
    obtain ⟨hwf, rfl⟩ := encode_of_decode hi
    exact legalWord_encode hwf
  · exact decode_of_legalWord

/-! ### What a word does (`30_encoding.md` R61, `60_exceptions.md` R109) -/

theorem runWord_of_decode {w : CmdWord} {i : Instr} (h : decode w = .ok i) (s : State) : runWord w s = exec i s := by
  simp only [runWord, h]

theorem runWord_of_not_legalWord {w : CmdWord} (h : ¬ LegalWord w) (s : State) :
    runWord w s = .next (s.raise (.illegalCommand w)) := by
  cases hd : decode w with
  | ok i => exact absurd ((decode_ok_iff_legalWord w).1 ⟨i, hd⟩) h
  | error c => simp only [runWord, hd, State.illegalWord]

/-- The record of ILLEGAL_COMMAND, field by field. -/
theorem State.raise_illegalCommand (s : State) (w : CmdWord) :
    s.raise (.illegalCommand w) = { s with
      result := .illegalCommand, errlog := s.errlog ||| 0b10000#5, errinfo := w.setWidth 64, draws := s.draws + 1 } := by
  have hinfo : (CmdError.illegalCommand w).info = w.setWidth 64 := (BitVec.setWidth_eq_append (by decide)).symm
  rw [State.raise, hinfo]; rfl

/-- Settles O3: each row from its format's mask, the legal words as the words the encoder gives. -/
theorem opcodeMapSelectsTheCommand : Obligations.OpcodeMapSelectsTheCommand := fun w =>
  ⟨decode_init_iff w, decode_updb_iff w, decode_update_iff w, decode_finalize_iff w, decode_finalizeHex_iff w,
    decode_computeBuf_iff w, decode_computeSrc_iff w, decode_ok_iff_legalWord w,
    fun s _ hd => runWord_of_decode hd s, fun s hw => runWord_of_not_legalWord hw s, decode_updb_word,
    rfl, rfl, rfl, rfl⟩

/-- Settles O5: a word outside the list decodes to nothing, and the record is written out. -/
theorem illegalWordChangesOnlyTheRecord : Obligations.IllegalWordChangesOnlyTheRecord :=
  ⟨fun s w hw => by rw [runWord_of_not_legalWord hw, State.raise_illegalCommand],
   by unfold LegalWord; decide, by unfold LegalWord; decide⟩

/-! ### The pseudo-commands (`30_encoding.md` R65) -/

theorem quoted_append_quote {text : List Char} (h : ∀ c ∈ text, c ≠ '"') (after : List Char) :
    quoted (text ++ '"' :: after) = some (text, after) := by
  induction text with
  | nil => rfl
  | cons c rest ih =>
    obtain ⟨hc, hrest⟩ := List.forall_mem_cons.1 h
    simp [quoted, hc, ih hrest]

theorem updsInstrs_of_ascii {text : List Char} (h : ∀ c ∈ text, c.toNat < 128) :
    updsInstrs text = some (text.map fun c => .updb (BitVec.ofNat 8 c.toNat)) := by
  induction text with
  | nil => rfl
  | cons c rest ih =>
    obtain ⟨hc, hrest⟩ := List.forall_mem_cons.1 h
    simp [updsInstrs, hc, ih hrest]

theorem updsText_upds (text : List Char) : updsText ("UPDS \"".toList ++ text) = some text := rfl

theorem assembleLine_upds {text : List Char} (hascii : ∀ c ∈ text, c.toNat < 128) (hquote : ∀ c ∈ text, c ≠ '"') :
    assembleLine ("UPDS \"".toList ++ text ++ ['"']) =
      some (text.map fun c => .updb (BitVec.ofNat 8 c.toNat)) := by
  rw [List.append_assoc, assembleLine, updsText_upds]
  simp only [quoted_append_quote hquote, updsInstrs_of_ascii hascii]
  rfl

/-- Settles O60: the four names by evaluation, UPDS by the two inductions over the text. -/
theorem pseudoCommandsExpand : Obligations.PseudoCommandsExpand :=
  ⟨by decide, by decide, by decide, by decide,
    fun _ h => assembleLine_upds (fun c hc => (h c hc).1) fun c hc => (h c hc).2⟩

end Sys2Proof.Machine
end

section
/-! PROOFS. Configuration and INIT (`40_init_table.md`): what each of the three checks answers, and the two outcomes of
INIT. -/

namespace Sys2Proof.Machine

open Sys2Proof

/-! ### The three checks of CheckConfig (`40_init_table.md` R69) -/

section

variable {c : Cfg}

theorem Cfg.check_of_not_widthOk (hw : ¬ WidthOk c.width) : c.check = some .width :=
  if_pos (not_or.1 hw)

/-- Past the first check, the check is the other two. -/
theorem Cfg.check_of_widthOk (hw : WidthOk c.width) :
    c.check = if 2 ^ c.width.toNat ≤ c.poly.toNat then some .poly
      else if 2 ^ c.width.toNat ≤ c.seed.toNat then some .seed else none :=
  if_neg (not_and_or.2 (hw.imp not_not.2 not_not.2))

theorem Cfg.check_of_poly (hw : WidthOk c.width) (hp : 2 ^ c.width.toNat ≤ c.poly.toNat) : c.check = some .poly := by
  rw [Cfg.check_of_widthOk hw, if_pos hp]

theorem Cfg.check_of_seed (hw : WidthOk c.width) (hp : Fits c.poly c.width) (hs : 2 ^ c.width.toNat ≤ c.seed.toNat) :
    c.check = some .seed := by
  rw [Cfg.check_of_widthOk hw, if_neg (Nat.not_le.2 hp), if_pos hs]

/-- Every container value fits 64 bits, so at width 64 only the first check can fail. -/
theorem Cfg.supported_of_width_eq_64 (hw : c.width = 64#8) : c.Supported := by
  have hfits (v : Container) : Fits v c.width := by rw [hw]; exact v.isLt
  exact ⟨.inr hw, hfits _, hfits _⟩

/-- The length causes are not among the causes of CheckConfig (`60_exceptions.md` R106). -/
theorem Cfg.cause_of_check {cause : ArgCause} (h : c.check = some cause) :
    cause = .width ∨ cause = .poly ∨ cause = .seed := by
  unfold Cfg.check at h
  split_ifs at h <;> cases h <;> decide

end

/-- Settles O17: each check's own lemma, the passing case from `check_none_iff`. -/
theorem configurationChecksInOrder : Obligations.ConfigurationChecksInOrder :=
  ⟨fun c => ⟨Cfg.check_of_not_widthOk, Cfg.check_of_poly, Cfg.check_of_seed,
      fun hw hp hs => (check_none_iff c).2 ⟨hw, hp, hs⟩,
      fun hw => (check_none_iff c).2 (Cfg.supported_of_width_eq_64 hw)⟩,
    rfl, rfl, rfl, (check_none_iff _).2 (by decide), (check_none_iff _).2 (by decide)⟩

/-! ### The two outcomes of INIT (`40_init_table.md` R72) -/

/-- The record of INVALID_ARGUMENT, field by field. -/
theorem State.raise_invalidArgument (s : State) (cause : ArgCause) :
    s.raise (.invalidArgument cause) = { s with
      result := .invalidArgument, errlog := s.errlog ||| 0b00010#5, errinfo := cause.code.setWidth 64,
      draws := s.draws + 1 } := by
  have hinfo : (CmdError.invalidArgument cause).info = cause.code.setWidth 64 :=
    (BitVec.setWidth_eq_append (by decide)).symm
  rw [State.raise, hinfo]; rfl

section

variable {s : State} {c : CfgSel} {cfg : Cfg}

theorem exec_init_of_supported (hsel : s.selectCfg c = some cfg) (hok : cfg.Supported) :
    exec (.init c) s = .next (s.install cfg).completeOk := by
  simp only [exec, execInit, hsel, (check_none_iff cfg).2 hok]

theorem exec_init_of_check {cause : ArgCause} (hsel : s.selectCfg c = some cfg) (hfail : cfg.check = some cause) :
    exec (.init c) s = .next (s.raise (.invalidArgument cause)) := by
  simp only [exec, execInit, hsel, hfail]

end

/-- Settles O25: a supported configuration is installed, any other raises its cause. -/
theorem initInstallsOrRejects : Obligations.InitInstallsOrRejects :=
  ⟨rfl, rfl, rfl, fun s c cfg hsel =>
    ⟨fun hok => ⟨(s.install cfg).completeOk, exec_init_of_supported hsel hok, rfl,
        fun i => by simp, rfl, rfl, rfl⟩,
      fun cause hfail => ⟨Cfg.cause_of_check hfail, by
        rw [exec_init_of_check hsel hfail, State.raise_invalidArgument]⟩⟩⟩

end Sys2Proof.Machine
end

section
/-! PROOFS. Update (`41_update.md`): the update engine on numbers and sequences, the two length checks, and what UPDB
and UPDATE do. -/

namespace Sys2Proof.Machine

open Sys2Proof

/-! ### The update engine (`41_update.md` R77, R78) -/

/-- The table index of UpdateByte, as a number. -/
theorem updateIndex_eq_ofNat {W : Nat} (reg : BitVec W) (b : Byte) :
    b ^^^ reg.setWidth 8 = BitVec.ofNat 8 (b.toNat ^^^ reg.toNat % 256) := by
  apply BitVec.eq_of_toNat_eq
  have hlt : b.toNat ^^^ reg.toNat % 256 < 2 ^ 8 := Nat.xor_lt_two_pow b.isLt (Nat.mod_lt _ (by decide))
  rw [BitVec.toNat_xor, BitVec.toNat_setWidth, BitVec.toNat_ofNat, Nat.mod_eq_of_lt hlt]

theorem updateByte_toNat {W : Nat} (reg : BitVec W) (table : Byte → BitVec W) (b : Byte) :
    (updateByte reg table b).toNat =
      reg.toNat / 256 ^^^ (table (BitVec.ofNat 8 (b.toNat ^^^ reg.toNat % 256))).toNat := by
  rw [updateByte, updateIndex_eq_ofNat, BitVec.toNat_xor, BitVec.toNat_ushiftRight, Nat.shiftRight_eq_div_pow]

theorem updateBytes_append {W : Nat} (reg : BitVec W) (table : Byte → BitVec W) (A B : List Byte) :
    updateBytes reg table (A ++ B) = updateBytes (updateBytes reg table A) table B := by
  induction A generalizing reg with
  | nil => rfl
  | cons b rest ih => exact ih (updateByte reg table b)

/-- From register 0 a leading zero byte changes nothing, as entry 0 is 0; a trailing one shifts the register. -/
theorem updateBytes_order_matters :
    updateBytes 0#16 (lookup (makeTable 0xA001#16)) [0x00#8, 0x01#8] ≠
      updateBytes 0#16 (lookup (makeTable 0xA001#16)) [0x01#8, 0x00#8] := by
  decide

/-- Settles O13: the fold's own equations, the induction over the first sequence, and two bytes that do not commute. -/
theorem updateBytesStreams : Obligations.UpdateBytesStreams :=
  ⟨fun _ => updateBytes_nil, fun _ => updateBytes_cons, fun _ => updateBytes_append,
    0#16, 0x00#8, 0x01#8, updateBytes_order_matters⟩

/-- The finalizer is its own inverse (`42_finalize_serialize.md` R85). -/
theorem finalizeValue_finalizeValue {W : Nat} (reg seed : BitVec W) :
    finalizeValue (finalizeValue reg seed) seed = reg := by
  rw [finalizeValue, finalizeValue, BitVec.xor_assoc, BitVec.xor_self, BitVec.xor_zero]

/-- Settles O12: the index is taken to a number first, the rest is the numbers of shift and XOR. -/
theorem updateByteAndFinalizeFormulas : Obligations.UpdateByteAndFinalizeFormulas :=
  ⟨fun _ => updateByte_toNat, fun _ reg seed => ⟨BitVec.toNat_xor reg seed, finalizeValue_finalizeValue reg seed⟩⟩

/-! ### The two length checks (`41_update.md` R82) -/

section

variable {s : State} {l : LenSel}

/-- ARG_LEN is read as it stands once the host has written it (`10_state.md` R27). -/
theorem length_argLen (h : s.argLenHeld = true) : s.length .argLen = s.argLen :=
  if_pos h

theorem effectiveLength_of_bufCap_lt (h : s.params.bufCap < s.bufLen) : s.effectiveLength l = .error .bufCap := by
  rw [effectiveLength_eq, if_pos h]

theorem effectiveLength_of_bufLen_lt (hcap : s.bufLen ≤ s.params.bufCap) (h : s.bufLen < s.length l) :
    s.effectiveLength l = .error .length := by
  rw [effectiveLength_eq, if_neg (BitVec.not_lt.2 hcap), if_pos h]

/-- The checks look at lengths only, at no byte of BUF. -/
theorem effectiveLength_setBuf (m : Memory) : ({ s with buf := m } : State).effectiveLength l = s.effectiveLength l := by
  cases l <;> rfl

end

/-- Settles O18: one lemma per outcome of the checks, at the length each `lensel` names. -/
theorem effectiveLengthChecksInOrder : Obligations.EffectiveLengthChecksInOrder :=
  ⟨rfl, rfl, fun s l => ⟨effectiveLength_of_bufCap_lt,
    fun hcap => effectiveLength_ok s .bufLen hcap (BitVec.le_refl s.bufLen),
    fun hcap hheld hlt => effectiveLength_of_bufLen_lt hcap (by rwa [length_argLen hheld]),
    fun hcap hheld hle => by
      rw [effectiveLength_ok s .argLen hcap (by rwa [length_argLen hheld]), length_argLen hheld],
    effectiveLength_setBuf⟩⟩

/-! ### The state check (`60_exceptions.md` R111) -/

/-- The record of INVALID_STATE, field by field. -/
theorem State.raise_invalidState (s : State) (found : Life) :
    s.raise (.invalidState found) = { s with
      result := .invalidState, errlog := s.errlog ||| 0b00100#5, errinfo := found.code.setWidth 64,
      draws := s.draws + 1 } := by
  have hinfo : (CmdError.invalidState found).info = found.code.setWidth 64 :=
    (BitVec.setWidth_eq_append (by decide)).symm
  rw [State.raise, hinfo]; rfl

/-- The state check comes first in every command that has one. -/
theorem exec_of_not_permits {i : Instr} {s : State} (h : s.life.permits i = false) :
    exec i s = .next (s.raise (.invalidState s.life)) := by
  cases i with
  | init | computeBuf | computeSrc => simp [Life.permits] at h
  | updb | update | finalize => exact congrArg _ (if_pos (of_decide_eq_false h))
  | finalizeHex =>
    have hl : s.life = .created := by simpa [Life.permits] using h
    simp only [exec, execFinalizeHex, hl]

/-! ### UPDB and UPDATE (`41_update.md` R80, R81) -/

section

variable {s : State} {b : Byte} {l : LenSel}

theorem exec_updb_of_initialized (hl : s.life = .initialized) : exec (.updb b) s = .next (s.absorb [b]).completeOk :=
  congrArg _ (if_neg (not_not.2 hl))

theorem exec_update_of_ok {n : BitVec 32} (hl : s.life = .initialized) (hn : s.effectiveLength l = .ok n) :
    exec (.update l) s = .next (s.absorb (s.bufBytes n.toNat)).completeOk := by
  simp only [exec, execUpdate, hl, hn, ne_eq, not_true_eq_false, if_false]

theorem exec_update_of_error {cause : ArgCause} (hl : s.life = .initialized)
    (hn : s.effectiveLength l = .error cause) :
    exec (.update l) s = .next (s.raise (.invalidArgument cause)) := by
  simp only [exec, execUpdate, hl, hn, ne_eq, not_true_eq_false, if_false]

end

/-- Settles O26: the word of UPDB, and the two outcomes with the record written out. -/
theorem updbFoldsOneByte : Obligations.UpdbFoldsOneByte := fun s b =>
  ⟨decode_updb_word b, exec_updb_of_initialized,
    fun hl => by rw [exec_of_not_permits (i := .updb b) (decide_eq_false hl), State.raise_invalidState]⟩

/-- Settles O27: each outcome of the two length checks gives UPDATE's, after the state check. -/
theorem updateFoldsTheBuffer : Obligations.UpdateFoldsTheBuffer :=
  ⟨rfl, rfl, fun s l =>
    ⟨fun hl hcap hlen => exec_update_of_ok hl (effectiveLength_ok s l hcap hlen),
      fun hl => by rw [exec_of_not_permits (i := .update l) (decide_eq_false hl), State.raise_invalidState],
      fun hl hcap => by
        rw [exec_update_of_error hl (effectiveLength_of_bufCap_lt hcap), State.raise_invalidArgument]; rfl,
      fun hl hcap hlen => by
        rw [exec_update_of_error hl (effectiveLength_of_bufLen_lt hcap hlen), State.raise_invalidArgument]; rfl⟩⟩

end Sys2Proof.Machine
end

section
/-! PROOFS. Finalize and serialize (`42_finalize_serialize.md`): the bytes of SerBytes in both orders, and what FINALIZE
and FINALIZE_HEX do. -/

namespace Sys2Proof.Machine

open Sys2Proof

/-! ### The serializer (`42_finalize_serialize.md` R87) -/

section

variable (v : Container) (W : Nat)

@[simp] theorem serBytes_length (order : ByteOrder) : (serBytes v W order).length = W / 8 := by
  rw [serBytes, List.length_map, List.length_range]

variable {v W} {k : Nat}

theorem serBytes_lsbFirst_getElem? (hk : k < W / 8) : (serBytes v W .lsbFirst)[k]? = some (byteAt v k) := by
  rw [serBytes, List.getElem?_map, List.getElem?_range hk, Option.map_some]

theorem serBytes_msbFirst_getElem? (hk : k < W / 8) :
    (serBytes v W .msbFirst)[k]? = some (byteAt v (W / 8 - 1 - k)) := by
  rw [serBytes, List.getElem?_map, List.getElem?_range hk, Option.map_some]

variable (v W)

theorem serBytes_msbFirst_eq_reverse : serBytes v W .msbFirst = (serBytes v W .lsbFirst).reverse := by
  apply List.ext_getElem?'
  intro k hmax
  have hk : k < W / 8 := by simpa using hmax
  have hrev : (serBytes v W .lsbFirst).reverse[k]? = (serBytes v W .lsbFirst)[W / 8 - 1 - k]? := by
    rw [List.getElem?_reverse (by rwa [serBytes_length]), serBytes_length]
  rw [hrev, serBytes_msbFirst_getElem? hk, serBytes_lsbFirst_getElem? (by omega)]

end

/-- Settles O19: the element at each position in either order, and the reversal position by position. -/
theorem serBytesPlacesEveryByte : Obligations.SerBytesPlacesEveryByte := fun v W _ =>
  ⟨serBytes_length v W, fun _ => serBytes_lsbFirst_getElem?, fun _ => serBytes_msbFirst_getElem?,
    serBytes_msbFirst_eq_reverse v W⟩

/-! ### FINALIZE and FINALIZE_HEX (`42_finalize_serialize.md` R90, R91) -/

section

variable {s : State}

/-- On values that fit CFG_WIDTH the finalizer's XOR at that width is the XOR of the containers. -/
theorem State.freeze_of_fits (hreg : Fits s.reg s.cfgWidth) (hseed : Fits s.cfgSeed s.cfgWidth) :
    s.freeze = { s with life := .finalized, digest := s.reg ^^^ s.cfgSeed } := by
  rw [State.freeze, finalizeValue, widen_xor, widen_narrow _ _ hreg, widen_narrow _ _ hseed]

theorem exec_finalize_of_initialized (hl : s.life = .initialized) :
    exec .finalize s = .next s.freeze.completeOk :=
  congrArg _ (if_neg (not_not.2 hl))

theorem exec_finalizeHex_of_initialized (hl : s.life = .initialized) :
    exec .finalizeHex s = .next s.freeze.completeOk := by
  simp only [exec, execFinalizeHex, hl]

theorem exec_finalizeHex_of_finalized (hl : s.life = .finalized) : exec .finalizeHex s = .next s.completeOk := by
  simp only [exec, execFinalizeHex, hl]

end

/-- Settles O28: the freeze on values that fit, and the state check elsewhere. -/
theorem finalizeFreezesTheDigest : Obligations.FinalizeFreezesTheDigest :=
  ⟨rfl, fun s =>
    ⟨fun hl _ hreg hseed => by
        rw [exec_finalize_of_initialized hl, State.freeze_of_fits hreg hseed, State.completeOk],
      fun hl => by rw [exec_of_not_permits (i := .finalize) (decide_eq_false hl), State.raise_invalidState]⟩⟩

/-- Settles O29: the freeze of FINALIZE, the re-read that only completes, and the state check. -/
theorem finalizeHexFinalizesOnce : Obligations.FinalizeHexFinalizesOnce :=
  ⟨rfl, fun s =>
    ⟨fun hl _ hreg hseed => by
        rw [exec_finalizeHex_of_initialized hl, State.freeze_of_fits hreg hseed, State.completeOk],
      fun hl => by rw [exec_finalizeHex_of_finalized hl, State.completeOk],
      fun hl => by
        rw [exec_of_not_permits (i := .finalizeHex) (by rw [hl]; rfl), State.raise_invalidState, hl]; rfl⟩⟩

end Sys2Proof.Machine
end

section
/-! PROOFS. One-shot commands (`43_oneshot.md`): the outcomes of COMPUTE_BUF and of COMPUTE_SRC with their records, and
the streaming context, which neither reads nor writes. -/

namespace Sys2Proof.Machine

open Sys2Proof

/-! ### The records of a one-shot command that fails (`43_oneshot.md` R100) -/

theorem State.raiseOneShot_invalidArgument (s : State) (cause : ArgCause) :
    s.raiseOneShot (.invalidArgument cause) = { s with
      ovalid := false, result := .invalidArgument, errlog := s.errlog ||| 0b00010#5,
      errinfo := cause.code.setWidth 64, draws := s.draws + 1 } := by
  rw [State.raiseOneShot, State.raise_invalidArgument]

/-- The answers of the source that failed are used up. -/
theorem State.useSrc_raiseOneShot_ioFailure (s : State) (phase : IoPhase) (count : BitVec 63) :
    s.useSrc.raiseOneShot (.ioFailure phase count) = { s with
      ovalid := false, src := none, result := .ioFailure, errlog := s.errlog ||| 0b01000#5,
      errinfo := phase.bit ++ count, draws := s.draws + 1 } := rfl

/-! ### COMPUTE_BUF (`43_oneshot.md` R97) -/

section

variable {s : State} {c : CfgSel} {l : LenSel} {cfg : Cfg}

theorem exec_computeBuf_of_ok {n : BitVec 32} (hsel : s.selectCfg c = some cfg) (hok : cfg.Supported)
    (hn : s.effectiveLength l = .ok n) :
    exec (.computeBuf c l) s =
      .next (s.storeOneShot cfg (updateBytes cfg.start cfg.entries (s.bufBytes n.toNat))).completeOk := by
  simp only [exec, execComputeBuf, hsel, (check_none_iff cfg).2 hok, hn]

theorem exec_computeBuf_of_check {cause : ArgCause} (hsel : s.selectCfg c = some cfg)
    (hfail : cfg.check = some cause) :
    exec (.computeBuf c l) s = .next (s.raiseOneShot (.invalidArgument cause)) := by
  simp only [exec, execComputeBuf, hsel, hfail]

theorem exec_computeBuf_of_error {cause : ArgCause} (hsel : s.selectCfg c = some cfg) (hok : cfg.Supported)
    (hn : s.effectiveLength l = .error cause) :
    exec (.computeBuf c l) s = .next (s.raiseOneShot (.invalidArgument cause)) := by
  simp only [exec, execComputeBuf, hsel, (check_none_iff cfg).2 hok, hn]

end

/-- Settles O30: the configuration check, then each outcome of the two length checks, with its record written out. -/
theorem computeBufStoresTheResult : Obligations.ComputeBufStoresTheResult :=
  ⟨rfl, fun s c l cfg hsel =>
    ⟨fun hok hcap hlen => exec_computeBuf_of_ok hsel hok (effectiveLength_ok s l hcap hlen),
      fun cause hfail => by rw [exec_computeBuf_of_check hsel hfail, State.raiseOneShot_invalidArgument],
      fun hok hcap => by
        rw [exec_computeBuf_of_error hsel hok (effectiveLength_of_bufCap_lt hcap),
          State.raiseOneShot_invalidArgument]; rfl,
      fun hok hcap hlen => by
        rw [exec_computeBuf_of_error hsel hok (effectiveLength_of_bufLen_lt hcap hlen),
          State.raiseOneShot_invalidArgument]; rfl⟩⟩

/-! ### The source of COMPUTE_SRC (`43_oneshot.md` R98) -/

/-- The byte count of a source that fails is the number of its bytes, saturated (`60_exceptions.md` R108). -/
theorem countUp_iterate_zero (k : Nat) : countUp^[k] 0#63 = BitVec.ofNat 63 (min k (2 ^ 63 - 1)) := by
  apply BitVec.eq_of_toNat_eq
  have hlt : min k (2 ^ 63 - 1) < 2 ^ 63 := by omega
  rw [countUp_iterate_toNat, BitVec.toNat_ofNat, BitVec.toNat_ofNat, Nat.mod_eq_of_lt hlt, Nat.zero_mod, Nat.zero_add]

section

variable {W : Nat} (table : Byte → BitVec W) (seed : BitVec W) (bytes : List Byte)

theorem srcRun_opened_eof : srcRun table seed (.opened bytes .eof) = .ended (updateBytes seed table bytes) :=
  srcLoop_eq table .eof bytes seed 0#63

theorem srcRun_opened_fail :
    srcRun table seed (.opened bytes .fail) =
      .failed .readSource (BitVec.ofNat 63 (min bytes.length (2 ^ 63 - 1))) := by
  rw [← countUp_iterate_zero]
  exact srcLoop_eq table .fail bytes seed 0#63

end

/-! ### COMPUTE_SRC (`43_oneshot.md` R98) -/

section

variable {s : State} {c : CfgSel} {cfg : Cfg}

theorem exec_computeSrc_of_ended {r : BitVec cfg.width.toNat} (hsel : s.selectCfg c = some cfg) (hok : cfg.Supported)
    (hr : srcRun cfg.entries cfg.start s.srcScript = .ended r) :
    exec (.computeSrc c) s = .next (s.useSrc.storeOneShot cfg r).completeOk := by
  simp only [exec, execComputeSrc, hsel, (check_none_iff cfg).2 hok, hr]

theorem exec_computeSrc_of_check {cause : ArgCause} (hsel : s.selectCfg c = some cfg)
    (hfail : cfg.check = some cause) :
    exec (.computeSrc c) s = .next (s.raiseOneShot (.invalidArgument cause)) := by
  simp only [exec, execComputeSrc, hsel, hfail]

theorem exec_computeSrc_of_failed {phase : IoPhase} {count : BitVec 63} (hsel : s.selectCfg c = some cfg)
    (hok : cfg.Supported) (hr : srcRun cfg.entries cfg.start s.srcScript = .failed phase count) :
    exec (.computeSrc c) s = .next (s.useSrc.raiseOneShot (.ioFailure phase count)) := by
  simp only [exec, execComputeSrc, hsel, (check_none_iff cfg).2 hok, hr]

end

/-- Settles O31: the configuration check, then what each script of the source gives, with its record written out. -/
theorem computeSrcStoresTheResult : Obligations.ComputeSrcStoresTheResult :=
  ⟨rfl, fun s c cfg hsel =>
    ⟨fun hok bytes hsrc => exec_computeSrc_of_ended hsel hok (by rw [hsrc]; exact srcRun_opened_eof ..),
      fun cause hfail => by rw [exec_computeSrc_of_check hsel hfail, State.raiseOneShot_invalidArgument],
      fun hok hsrc => by
        have hopen : srcRun cfg.entries cfg.start s.srcScript = .failed .openSource 0#63 := by rw [hsrc]; rfl
        rw [exec_computeSrc_of_failed hsel hok hopen, State.useSrc_raiseOneShot_ioFailure]; rfl,
      fun hok bytes hsrc => by
        have hread := srcRun_opened_fail cfg.entries cfg.start bytes
        rw [← hsrc] at hread
        rw [exec_computeSrc_of_failed hsel hok hread, State.useSrc_raiseOneShot_ioFailure]; rfl⟩⟩

/-! ### What a one-shot command writes (`43_oneshot.md` R96) -/

/-- The effects of a one-shot command: each writes the one-shot result and the completion record at most, and none of
those that complete is INVALID_STATE. -/
theorem Effect.frame_of_isOneShot {i : Instr} {s t : State} (h : Effect i s t) (hi : i.isOneShot = true) :
    t = { s with
      odigest := t.odigest, owidth := t.owidth, ovalid := t.ovalid, result := t.result, errlog := t.errlog,
      errinfo := t.errinfo, engine := t.engine, src := t.src, draws := t.draws } ∧
    (t.engine = .idle → t.result ≠ .invalidState) := by
  cases h with
  | illegal | badOneShot | badSource | stored | storedFromSrc => exact ⟨rfl, fun _ => nofun⟩
  | waits => exact ⟨rfl, fun hidle => by simp at hidle⟩
  | badState hp => cases i <;> simp [Instr.isOneShot, Life.permits] at hi hp
  | badArgument hc | absorbed hc => obtain ⟨_, rfl⟩ | ⟨_, rfl⟩ := hc <;> cases hi
  | installed c hc => subst hc; cases hi
  | froze hc => obtain rfl | rfl := hc <;> cases hi
  | reread hc => subst hc; cases hi

/-! ### The same block with another streaming context

The simp lemmas move `withContext` outwards, past every operation of a one-shot command, and drop it where an operand is
read. -/

/-- The streaming context (`43_oneshot.md` R96): STATE, CFG_WIDTH, CFG_POLY, CFG_SEED, REG, TABLE and DIGEST. -/
structure Context where
  life : Life
  cfgWidth : BitVec 8
  cfgPoly : Container
  cfgSeed : Container
  reg : Container
  digest : Container
  table : Table

/-- The same state with the streaming context `k`. -/
def State.withContext (s : State) (k : Context) : State :=
  { s with
    life := k.life, cfgWidth := k.cfgWidth, cfgPoly := k.cfgPoly, cfgSeed := k.cfgSeed, reg := k.reg, table := k.table,
    digest := k.digest }

section

variable (s : State) (k : Context)

@[simp] theorem State.selectCfg_withContext (c : CfgSel) : (s.withContext k).selectCfg c = s.selectCfg c := by
  cases c <;> rfl

@[simp] theorem State.effectiveLength_withContext (l : LenSel) :
    (s.withContext k).effectiveLength l = s.effectiveLength l := by
  cases l <;> rfl

@[simp] theorem State.bufBytes_withContext (n : Nat) : (s.withContext k).bufBytes n = s.bufBytes n := rfl

@[simp] theorem State.srcScript_withContext : (s.withContext k).srcScript = s.srcScript := rfl

@[simp] theorem State.completeOk_withContext : (s.withContext k).completeOk = s.completeOk.withContext k := rfl

@[simp] theorem State.raise_withContext (e : CmdError) : (s.withContext k).raise e = (s.raise e).withContext k := rfl

@[simp] theorem State.raiseOneShot_withContext (e : CmdError) :
    (s.withContext k).raiseOneShot e = (s.raiseOneShot e).withContext k := rfl

@[simp] theorem State.storeOneShot_withContext (c : Cfg) (r : BitVec c.width.toNat) :
    (s.withContext k).storeOneShot c r = (s.storeOneShot c r).withContext k := rfl

@[simp] theorem State.useSrc_withContext : (s.withContext k).useSrc = s.useSrc.withContext k := rfl

@[simp] theorem State.waitForSrc_withContext : (s.withContext k).waitForSrc = s.waitForSrc.withContext k := rfl

end

/-! ### A one-shot command does the same with any streaming context (`43_oneshot.md` R96) -/

section

variable {s t : State} (k : Context)

theorem execComputeBuf_withContext {c : CfgSel} {l : LenSel} (h : execComputeBuf c l s = .next t) :
    execComputeBuf c l (s.withContext k) = .next (t.withContext k) := by
  cases h
  simp only [execComputeBuf, State.selectCfg_withContext]
  cases s.selectCfg c with
  | none => simp
  | some cfg =>
    cases hk : cfg.check with
    | some cause => simp [hk]
    | none => cases hn : s.effectiveLength l <;> simp [hk, hn]

theorem execComputeSrc_withContext {c : CfgSel} (h : execComputeSrc c s = .next t) :
    execComputeSrc c (s.withContext k) = .next (t.withContext k) := by
  cases h
  simp only [execComputeSrc, State.selectCfg_withContext]
  cases s.selectCfg c with
  | none => simp
  | some cfg =>
    cases hk : cfg.check with
    | some cause => simp [hk]
    | none => cases hr : srcRun cfg.entries cfg.start s.srcScript <;> simp [hk, hr]

theorem exec_withContext {i : Instr} (hi : i.isOneShot = true) (h : exec i s = .next t) :
    exec i (s.withContext k) = .next (t.withContext k) := by
  cases i with
  | computeBuf c l => exact execComputeBuf_withContext k h
  | computeSrc c => exact execComputeSrc_withContext k h
  | init | updb | update | finalize | finalizeHex => cases hi

end

/-- Settles O41: the frame and the result from the effects of a command, and a one-shot command commutes with a change
of the streaming context. -/
theorem oneShotIgnoresTheContext : Obligations.OneShotIgnoresTheContext := by
  intro i s t hi h
  obtain ⟨hframe, hresult⟩ := (exec_effect i s t h).frame_of_isOneShot hi
  exact ⟨hframe, fun _ => hresult,
    fun life cw cp cs reg digest table => exec_withContext ⟨life, cw, cp, cs, reg, digest, table⟩ hi h⟩

end Sys2Proof.Machine
end

section
/-! PROOFS. Exceptions (`60_exceptions.md`): how a command completes, which error it reports when it could report
several, and what the completion record holds. -/

namespace Sys2Proof.Machine

open Sys2Proof

/-! ### The result codes (`60_exceptions.md` R105) -/

/-- RESULT always holds a value, and it is the code of a result. -/
theorem readReg_result_ne (s : State) {v : BitVec 3} (hv : 5 ≤ v.toNat) : s.readReg .result ≠ v := by
  rintro rfl
  exact absurd s.result.code_lt_five (Nat.not_lt.2 hv)

/-- Settles O39: the codes by their definition, the others by the bound on a code. -/
theorem resultCodesAreTheTable : Obligations.ResultCodesAreTheTable :=
  ⟨rfl, rfl, rfl, rfl, rfl, fun s =>
    ⟨readReg_result_ne s (by decide), readReg_result_ne s (by decide), readReg_result_ne s (by decide)⟩⟩

/-! ### How a command completes (`60_exceptions.md` R112, R113) -/

/-- What a command that completes leaves of the completion record, and, when it fails, of everything: only a one-shot
command that got as far as its configuration clears OVALID (`43_oneshot.md` R100). -/
inductive Completion (i : Instr) (s : State) : State → Prop where
  | ok {t : State} (hres : t.result = .ok) (hlog : t.errlog = s.errlog) (hinfo : t.errinfo = s.errinfo) :
      Completion i s t
  | failed (e : CmdError) (ovalid : Bool) (src : Option SrcScript)
      (hvalid : ovalid = if i.isOneShot = true ∧ e.result ≠ .illegalCommand then false else s.ovalid) :
      Completion i s { s.raise e with ovalid := ovalid, src := src }

/-- A one-shot command has no state check (`60_exceptions.md` R111). -/
theorem not_isOneShot_of_not_permits {i : Instr} {l : Life} (h : l.permits i = false) : ¬ i.isOneShot = true := by
  cases i with
  | init | computeBuf | computeSrc => cases h
  | updb | update | finalize | finalizeHex => exact Bool.false_ne_true

theorem Effect.completion {i : Instr} {s t : State} (h : Effect i s t) (hidle : t.engine = .idle) :
    Completion i s t := by
  cases h with
  | illegal hi w => exact .failed (.illegalCommand w) _ _ (if_neg fun hc => hc.2 rfl).symm
  | badArgument hi c =>
    refine .failed (.invalidArgument c) _ _ (if_neg fun hc => ?_).symm
    obtain ⟨_, rfl⟩ | ⟨_, rfl⟩ := hi <;> cases hc.1
  | badState hp =>
    exact .failed (.invalidState s.life) _ _ (if_neg fun hc => not_isOneShot_of_not_permits hp hc.1).symm
  | badOneShot hi c => exact .failed (.invalidArgument c) _ _ (if_pos ⟨hi, nofun⟩).symm
  | badSource hi p n => exact .failed (.ioFailure p n) _ _ (if_pos ⟨hi, nofun⟩).symm
  | installed | absorbed | froze | reread | stored | storedFromSrc => exact .ok rfl rfl rfl
  | waits => simp at hidle

/-- Settles O36: a completion that is not OK is the raised error, with OVALID as the completion says. -/
theorem failingCommandKeepsTheRest : Obligations.FailingCommandKeepsTheRest := by
  intro i s t _ h hidle hfail
  cases (exec_effect i s t h).completion hidle with
  | ok hres => exact absurd hres hfail
  | failed e ovalid src hvalid => subst hvalid; rfl

/-- Settles O37: a command's completion is OK or an error, and a word that is no command raises ILLEGAL_COMMAND. -/
theorem completionRecordIsWritten : Obligations.CompletionRecordIsWritten := by
  intro w s t _ h hidle
  by_cases hw : LegalWord w
  · obtain ⟨i, hd⟩ := decode_of_legalWord hw
    rw [runWord_of_decode hd] at h
    cases (exec_effect i s t h).completion hidle with
    | ok hres hlog hinfo => exact .inl ⟨hres, hlog, hinfo⟩
    | failed e => exact .inr ⟨e, rfl, rfl, getLsbD_errlogSet _ _⟩
  · rw [runWord_of_not_legalWord hw] at h
    cases h
    exact .inr ⟨.illegalCommand w, rfl, rfl, getLsbD_errlogSet _ _⟩

/-! ### The state check (`60_exceptions.md` R107, R111) -/

theorem Effect.not_permits_of_invalidState {i : Instr} {s t : State} (h : Effect i s t) (hidle : t.engine = .idle)
    (hres : t.result = .invalidState) : s.life.permits i = false := by
  cases h with
  | badState hp => exact hp
  | illegal | badArgument | badOneShot | badSource => cases hres
  | installed | absorbed | froze | reread | stored | storedFromSrc => cases hres
  | waits => simp at hidle

/-- A command has one next state. -/
theorem exec_next_unique {i : Instr} {s t u : State} (h : exec i s = .next t) (hu : exec i s = .next u) : t = u :=
  Host.Outcome.next.inj (h.symm.trans hu)

theorem exec_invalidState_iff {i : Instr} {s t : State} (h : exec i s = .next t) (hidle : t.engine = .idle) :
    t.result = .invalidState ↔ s.life.permits i = false := by
  refine ⟨(exec_effect i s t h).not_permits_of_invalidState hidle, fun hp => ?_⟩
  rw [exec_next_unique h (exec_of_not_permits hp)]; rfl

theorem Life.ne_initialized_iff (l : Life) : decide (l = .initialized) = false ↔ l = .created ∨ l = .finalized := by
  cases l <;> decide

/-- Settles O34: INVALID_STATE is where the state check fails, which is read off the matrix row by row. -/
theorem invalidStateFollowsTheMatrix : Obligations.InvalidStateFollowsTheMatrix := by
  intro i s t _ h hidle
  have hiff := exec_invalidState_iff h hidle
  refine ⟨hiff.trans ?_, fun hres => ?_⟩
  · cases i with
    | updb | update | finalize => exact s.life.ne_initialized_iff
    | finalizeHex => simp [Life.permits]
    | init | computeBuf | computeSrc => exact ⟨nofun, nofun⟩
  · rw [exec_next_unique h (exec_of_not_permits (hiff.1 hres)), State.raise_invalidState]
    exact ⟨rfl, rfl⟩

/-! ### The first error in order (`60_exceptions.md` R110) -/

/-- RESULT and ERRINFO are those of the error `e`. -/
def State.Reports (t : State) (e : CmdError) : Prop := t.result = e.result ∧ t.errinfo = e.info

section

variable {i : Instr} {s t : State} {c : CfgSel} {l : LenSel} {cfg : Cfg} {cause : ArgCause}

/-- The configuration check is the first of every command that has one, and fails before the source is touched. -/
theorem exec_reports_check (hsel : s.selectCfg c = some cfg)
    (hi : i = .init c ∨ (∃ l, i = .computeBuf c l) ∨ i = .computeSrc c) (h : exec i s = .next t)
    (hfail : cfg.check = some cause) : t.Reports (.invalidArgument cause) ∧ t.src = s.src := by
  obtain rfl | ⟨l, rfl⟩ | rfl := hi
  · rw [exec_next_unique h (exec_init_of_check hsel hfail)]; exact ⟨⟨rfl, rfl⟩, rfl⟩
  · rw [exec_next_unique h (exec_computeBuf_of_check hsel hfail)]; exact ⟨⟨rfl, rfl⟩, rfl⟩
  · rw [exec_next_unique h (exec_computeSrc_of_check hsel hfail)]; exact ⟨⟨rfl, rfl⟩, rfl⟩

theorem exec_update_reports_length (hl : s.life = .initialized) (h : exec (.update l) s = .next t)
    (hn : s.effectiveLength l = .error cause) : t.Reports (.invalidArgument cause) := by
  rw [exec_next_unique h (exec_update_of_error hl hn)]; exact ⟨rfl, rfl⟩

theorem exec_computeBuf_reports_length (hsel : s.selectCfg c = some cfg) (hok : cfg.Supported)
    (h : exec (.computeBuf c l) s = .next t) (hn : s.effectiveLength l = .error cause) :
    t.Reports (.invalidArgument cause) := by
  rw [exec_next_unique h (exec_computeBuf_of_error hsel hok hn)]; exact ⟨rfl, rfl⟩

theorem Effect.isOneShot_of_ioFailure (h : Effect i s t) (hidle : t.engine = .idle) (hres : t.result = .ioFailure) :
    i.isOneShot = true := by
  cases h with
  | badSource hi => exact hi
  | illegal | badArgument | badState | badOneShot => cases hres
  | installed | absorbed | froze | reread | stored | storedFromSrc => cases hres
  | waits => simp at hidle

/-- COMPUTE_BUF has no source. -/
theorem exec_computeBuf_result_ne_ioFailure (h : exec (.computeBuf c l) s = .next t) : t.result ≠ .ioFailure := by
  cases h
  split -- the selected configuration
  · exact nofun
  · split -- its check
    · exact nofun
    · split <;> exact nofun -- the length checks

theorem exec_computeSrc_of_reserved (hsel : s.selectCfg c = none) :
    exec (.computeSrc c) s = .next (s.raise (.illegalCommand (encode (.computeSrc c)))) := by
  simp only [exec, execComputeSrc, hsel]

/-- A COMPUTE_SRC that got as far as its source has a configuration that passed. -/
theorem exec_computeSrc_supported_of_ioFailure (h : exec (.computeSrc c) s = .next t) (hres : t.result = .ioFailure) :
    ∃ cfg, s.selectCfg c = some cfg ∧ cfg.Supported := by
  cases hsel : s.selectCfg c with
  | none => rw [exec_next_unique h (exec_computeSrc_of_reserved hsel)] at hres; cases hres
  | some cfg =>
    cases hcheck : cfg.check with
    | none => exact ⟨cfg, rfl, (check_none_iff cfg).1 hcheck⟩
    | some cause => rw [exec_next_unique h (exec_computeSrc_of_check hsel hcheck)] at hres; cases hres

theorem exec_ioFailure_source (h : exec i s = .next t) (hidle : t.engine = .idle) (hres : t.result = .ioFailure) :
    ∃ c cfg, i = .computeSrc c ∧ s.selectCfg c = some cfg ∧ cfg.Supported := by
  have hone := (exec_effect i s t h).isOneShot_of_ioFailure hidle hres
  cases i with
  | computeSrc c =>
    obtain ⟨cfg, hsel, hok⟩ := exec_computeSrc_supported_of_ioFailure h hres
    exact ⟨c, cfg, rfl, hsel, hok⟩
  | computeBuf => exact absurd hres (exec_computeBuf_result_ne_ioFailure h)
  | init | updb | update | finalize | finalizeHex => cases hone

end

/-- Settles O35: decode, then the state check, then the checks of configuration and length in their order; the source
comes after all of them. -/
theorem firstErrorInOrderIsReported : Obligations.FirstErrorInOrderIsReported := by
  intro s
  refine ⟨fun w t hw h => ?illegal, fun l t hl h => ?state, fun l t hl h => ?updateLength,
    fun i c cfg t hsel hi h => ?config, fun c l cfg t hsel hok h => ?bufLength,
    fun i t _ h hidle hres => exec_ioFailure_source h hidle hres⟩
  case illegal =>
    rw [runWord_of_not_legalWord hw] at h
    cases h; rfl
  case state =>
    rw [exec_next_unique h (exec_of_not_permits (i := .update l) (decide_eq_false hl))]; rfl
  case updateLength =>
    exact ⟨fun hcap => exec_update_reports_length hl h (effectiveLength_of_bufCap_lt hcap),
      fun hcap hlen => exec_update_reports_length hl h (effectiveLength_of_bufLen_lt hcap hlen)⟩
  case config =>
    have hreport {cause : ArgCause} (hfail : cfg.check = some cause) := exec_reports_check hsel hi h hfail
    exact ⟨fun hw => and_assoc.1 (hreport (Cfg.check_of_not_widthOk hw)),
      fun hw hp => and_assoc.1 (hreport (Cfg.check_of_poly hw (Nat.not_lt.1 hp))),
      fun hw hp hs => and_assoc.1 (hreport (Cfg.check_of_seed hw hp (Nat.not_lt.1 hs)))⟩
  case bufLength =>
    exact ⟨fun hcap => exec_computeBuf_reports_length hsel hok h (effectiveLength_of_bufCap_lt hcap),
      fun hcap hlen => exec_computeBuf_reports_length hsel hok h (effectiveLength_of_bufLen_lt hcap hlen)⟩

end Sys2Proof.Machine
end

section
/-! PROOFS. The invariant (`10_state.md` R14 to R16, R19, R25; `20_memory.md` R38): it holds after reset, each part is
kept by every effect of a command, and so a step keeps it. -/

namespace Sys2Proof.Machine

open Sys2Proof

/-! ### What a step does to the fields the invariant looks at -/

/-- The fields the invariant looks at are the same in both states. -/
structure SameBlock (s t : State) : Prop where
  life : t.life = s.life
  cfgWidth : t.cfgWidth = s.cfgWidth
  cfgPoly : t.cfgPoly = s.cfgPoly
  cfgSeed : t.cfgSeed = s.cfgSeed
  reg : t.reg = s.reg
  table : t.table = s.table
  digest : t.digest = s.digest
  odigest : t.odigest = s.odigest
  owidth : t.owidth = s.owidth
  ovalid : t.ovalid = s.ovalid
  result : t.result = s.result
  errlog : t.errlog = s.errlog
  buf : t.buf = s.buf
  params : t.params = s.params

theorem sameBlock_pop (s : State) (rest : List HostAction) : SameBlock s (s.pop rest) := by
  constructor <;> rfl

theorem sameBlock_reply (s : State) (r : Reply) : SameBlock s (s.reply r) := by
  constructor <;> rfl

theorem sameBlock_nameSrc (s : State) (script : SrcScript) : SameBlock s (s.nameSrc script) := by
  constructor <;> rfl

/-- The five registers the host writes are in no part of the invariant. -/
theorem sameBlock_writeReg (s : State) (r : Reg) (v : BitVec r.width) : SameBlock s (s.writeReg r v) := by
  constructor <;> simp

theorem sameBlock_applyReset (s : State) : SameBlock (State.resetFor s.params) s.applyReset := by
  constructor <;> rfl

/-- The one induction step of every invariant: what the effects of a command, a reset, and a byte written below BUFCAP
keep, a step keeps. -/
theorem step_keeps {P : State → Prop} (hsame : ∀ s t, SameBlock s t → P s → P t)
    (hreset : ∀ s : State, P s.applyReset)
    (heffect : ∀ i s t, Effect i s t → P s → P t)
    (hstore : ∀ (s : State) (off : Nat) (b : Byte), off < s.params.bufCap.toNat → P s → P (s.storeByte off b))
    {s t : State} (hs : P s) (h : step s = .next t) : P t := by
  have hpop (rest : List HostAction) : P (s.pop rest) := hsame _ _ (sameBlock_pop s rest) hs
  cases step_did s t h with
  | quiet => exact hs
  | reset => exact hreset _
  | command w rest hh he i hd t ht => exact heffect i _ t (exec_effect i _ t ht) (hpop rest)
  | illegal w rest => exact heffect (.init .reserved) _ _ (.illegal rfl w) (hpop rest)
  | wrote r v rest => exact hsame _ _ (sameBlock_writeReg _ r v) (hpop rest)
  | ignored a rest => exact hpop rest
  | replied a rest hh ha he r => exact hsame _ _ (sameBlock_reply _ r) (hpop rest)
  | wroteBuf off b rest hh hc => exact hstore _ off b hc (hpop rest)
  | named script rest => exact hsame _ _ (sameBlock_nameSrc _ script) (hpop rest)

/-! ### The range invariant (`10_state.md` R14) -/

theorem rangeInv_install (s : State) {cfg : Cfg} (hok : cfg.Supported) : RangeInv (s.install cfg) := by
  obtain ⟨hw, hp, hs⟩ := hok
  refine ⟨fun _ => ⟨hw, hs, hp, hs, fun i => ?_⟩, nofun⟩
  rw [State.install_table, lookup_cfgTable]
  exact fits_widen _ (width_le _ hw)

/-- What the update engine writes to REG comes from a value of CFG_WIDTH bits. -/
theorem RangeInv.absorb {s : State} (h : RangeInv s) (hl : s.life = .initialized) (bytes : List Byte) :
    RangeInv (s.absorb bytes) := by
  obtain ⟨hw, -, hp, hs, ht⟩ := h.1 (by simp [hl])
  exact ⟨fun _ => ⟨hw, fits_widen _ (width_le _ hw), hp, hs, ht⟩, fun hfin => by simp [hl] at hfin⟩

/-- DIGEST is written from a value of CFG_WIDTH bits. -/
theorem RangeInv.freeze {s : State} (h : RangeInv s) (hl : s.life = .initialized) : RangeInv s.freeze := by
  have hctx := h.1 (by simp [hl])
  exact ⟨fun _ => hctx, fun _ => fits_widen _ (width_le _ hctx.1)⟩

theorem Effect.rangeInv {i : Instr} {s t : State} (h : Effect i s t) (hs : RangeInv s) : RangeInv t := by
  cases h with
  | installed c hi cfg hok => exact (rangeInv_install s hok).of_eq rfl rfl rfl rfl rfl rfl rfl
  | absorbed hi hl bytes => exact (hs.absorb hl bytes).of_eq rfl rfl rfl rfl rfl rfl rfl
  | froze hi hl => exact (hs.freeze hl).of_eq rfl rfl rfl rfl rfl rfl rfl
  | _ => exact hs.of_eq rfl rfl rfl rfl rfl rfl rfl

theorem rangeInv_resetFor (p : Params) : RangeInv (State.resetFor p) :=
  ⟨fun h => absurd rfl h, nofun⟩

theorem RangeInv.of_sameBlock {s t : State} (hs : RangeInv s) (e : SameBlock s t) : RangeInv t :=
  hs.of_eq e.life e.cfgWidth e.cfgPoly e.cfgSeed e.reg e.digest e.table

/-- Settles O51: INIT, the updates and FINALIZE write values that fit, and only reset touches the context besides. -/
theorem stepKeepsTheRangeInvariant : Obligations.StepKeepsTheRangeInvariant := fun _ _ hs h =>
  step_keeps (P := RangeInv) (fun _ _ e hs => hs.of_sameBlock e)
    (fun s => (rangeInv_resetFor s.params).of_sameBlock (sameBlock_applyReset s))
    (fun _ _ _ h hs => h.rangeInv hs)
    (fun _ _ _ _ hs => hs.of_eq rfl rfl rfl rfl rfl rfl rfl) hs h

/-! ### The other parts of the invariant -/

section

variable {i : Instr} {s t : State}

/-- INIT writes the table of the configuration it writes, and nothing else writes either (`10_state.md` R15). -/
theorem Effect.tableInv (h : Effect i s t) (hs : TableInv s) : TableInv t := by
  cases h with
  | installed c hi cfg hok => exact fun _ k => by simp
  | froze hi hl => exact fun _ => hs (by simp [hl])
  | _ => exact hs.of_eq rfl rfl rfl rfl

/-- Finalized is entered with DIGEST written, and REG and CFG_SEED are not written there (`10_state.md` R16). -/
theorem Effect.frozenInv (h : Effect i s t) (hrange : RangeInv s) (hs : FrozenInv s) : FrozenInv t := by
  cases h with
  | installed => exact nofun
  | absorbed hi hl => exact fun hfin => by simp [hl] at hfin
  | froze hi hl =>
    obtain ⟨-, hreg, -, hseed, -⟩ := hrange.1 (by simp [hl])
    rw [State.freeze_of_fits hreg hseed]
    exact fun _ => rfl
  | _ => exact hs.of_eq rfl rfl rfl rfl

/-- A one-shot result is stored at a supported width, and a one-shot failure clears OVALID (`10_state.md` R19). -/
theorem Effect.oneShotInv (h : Effect i s t) (hs : OneShotInv s) : OneShotInv t := by
  cases h with
  | badOneShot | badSource => exact nofun
  | stored hi cfg hok | storedFromSrc hi cfg hok => exact fun _ => ⟨hok.1, fits_widen _ (width_le _ hok.1)⟩
  | _ => exact hs.of_eq rfl rfl rfl

/-- A raised error sets its own bit of ERRLOG, which is not bit 0. -/
theorem errlogInv_of_raised (e : CmdError) (hs : ErrlogInv s) (hlog : t.errlog = errlogSet s.errlog e.result)
    (hres : t.result = e.result) : ErrlogInv t :=
  ⟨hlog ▸ (errlogGrows_errlogSet s.errlog e).2 hs.1, fun _ => by simp [hlog, hres]⟩

theorem Effect.errlogInv (h : Effect i s t) (hs : ErrlogInv s) : ErrlogInv t := by
  cases h with
  | illegal | badArgument | badState | badOneShot | badSource => exact errlogInv_of_raised _ hs rfl rfl
  | installed | absorbed | froze | reread | stored | storedFromSrc => exact ⟨hs.1, fun hne => absurd rfl hne⟩
  | waits => exact hs

theorem Effect.buf_eq (h : Effect i s t) : t.buf = s.buf := by
  cases h <;> rfl

end

/-! ### The whole invariant -/

theorem Effect.inv {i : Instr} {s t : State} (h : Effect i s t) (hs : s.Inv) : t.Inv where
  range := h.rangeInv hs.range
  table := h.tableInv hs.table
  frozen := h.frozenInv hs.range hs.frozen
  oneShot := h.oneShotInv hs.oneShot
  errlog := h.errlogInv hs.errlog
  buf := hs.buf.of_eq h.buf_eq h.params_eq

theorem State.Inv.of_sameBlock {s t : State} (hs : s.Inv) (e : SameBlock s t) : t.Inv where
  range := hs.range.of_sameBlock e
  table := hs.table.of_eq e.life e.cfgWidth e.cfgPoly e.table
  frozen := hs.frozen.of_eq e.life e.digest e.reg e.cfgSeed
  oneShot := hs.oneShot.of_eq e.ovalid e.owidth e.odigest
  errlog := by unfold ErrlogInv; rw [e.errlog, e.result]; exact hs.errlog
  buf := hs.buf.of_eq e.buf e.params

theorem inv_resetFor (p : Params) : (State.resetFor p).Inv where
  range := rangeInv_resetFor p
  table := fun h => absurd rfl h
  frozen := nofun
  oneShot := nofun
  errlog := ⟨BitVec.getLsbD_zero, fun h => absurd rfl h⟩
  buf := ⟨rfl, rfl⟩

/-- A byte written below BUFCAP changes BUF only, and keeps its canonical form and its bound. -/
theorem State.Inv.storeByte {s : State} {off : Nat} (hs : s.Inv) (b : Byte) (hoff : off < s.params.bufCap.toNat) :
    (s.storeByte off b).Inv :=
  { hs with buf := ⟨Memory.wf_write _ _ _ hs.buf.1, Memory.below_write _ _ _ _ hoff hs.buf.2⟩ }

/-- Settles O8: Created holds no context, and the record and BUF are empty. -/
theorem resetMeetsTheInvariant : Obligations.ResetMeetsTheInvariant :=
  ⟨inv_resetFor, inv_resetFor Params.shown⟩

/-- Settles O52: each part of the invariant is kept by every effect of a command, the frozen digest with the help of the
range invariant. -/
theorem stepKeepsTheInvariant : Obligations.StepKeepsTheInvariant := fun _ _ hs h =>
  step_keeps (P := State.Inv) (fun _ _ e hs => hs.of_sameBlock e)
    (fun s => (inv_resetFor s.params).of_sameBlock (sameBlock_applyReset s)) (fun _ _ _ h hs => h.inv hs)
    (fun _ _ b hoff hs => hs.storeByte b hoff) hs h

end Sys2Proof.Machine
end

section
/-! PROOFS. Encoding and assembler (`30_encoding.md`): the decoder and the encoder are inverse, and each line of the
assembler is its word. -/

namespace Sys2Proof.Machine

open Sys2Proof

/-! ### Decoder and encoder (`30_encoding.md` R55 to R62) -/

/-- Settles O1: the encoder's word of each row is decoded by that row. -/
theorem decodeReadsBackEncode : Obligations.DecodeReadsBackEncode := fun _ => decode_encode

/-- Settles O2: the decoder accepts a word only when every field of the row's format is as the encoder writes it. -/
theorem encodeReadsBackDecode : Obligations.EncodeReadsBackDecode := fun _ _ => encode_of_decode

/-- Settles O4: the three rejections by evaluation, the other words because the encoder writes them. -/
theorem sampleWordsDecode : Obligations.SampleWordsDecode :=
  ⟨decode_encode (i := .init .std16) rfl, decode_encode (i := .updb 0x31#8) rfl,
    decode_encode (i := .update .argLen) rfl, decode_encode (i := .finalize) rfl, decode_encode (i := .finalizeHex) rfl,
    decode_encode (i := .computeBuf .std64 .argLen) rfl, decode_encode (i := .computeSrc .std64) rfl, rfl, rfl, rfl⟩

/-! ### Numbers (`30_encoding.md` R64) -/

theorem digitValue_digitChar {d : Nat} (h : d < 16) : digitValue d.digitChar = some d := by
  revert d; decide

theorem digitsValue_append (base : Nat) (A B : List Char) (acc : Nat) :
    digitsValue base (A ++ B) acc = (digitsValue base A acc).bind (digitsValue base B) := by
  induction A generalizing acc with
  | nil => rfl
  | cons c rest ih =>
    simp only [List.cons_append, digitsValue, ih]
    cases digitValue c with
    | none => rfl
    | some d => by_cases hd : d < base <;> simp [hd]

theorem digitsValue_digitChar {base d : Nat} (hd : d < base) (hbase : base ≤ 16) (acc : Nat) :
    digitsValue base [d.digitChar] acc = some (acc * base + d) := by
  simp [digitsValue, digitValue_digitChar (hd.trans_le hbase), hd]

/-- The digits of a number in a base up to 16 have the number as their value. -/
theorem digitsValue_toDigits {base : Nat} (h1 : 1 < base) (h16 : base ≤ 16) (n : Nat) :
    digitsValue base (Nat.toDigits base n) 0 = some n := by
  induction n using Nat.strong_induction_on with
  | _ n ih =>
    by_cases hn : n < base
    · rw [Nat.toDigits_of_lt_base hn, digitsValue_digitChar hn h16, Nat.zero_mul, Nat.zero_add]
    · have hdiv : n / base < n := Nat.div_lt_self (by omega) h1
      rw [Nat.toDigits_of_base_le h1 (not_lt.1 hn), digitsValue_append, ih _ hdiv, Option.bind_some,
        digitsValue_digitChar (Nat.mod_lt n (by omega)) h16, Nat.div_add_mod']

theorem exists_digitChar_of_mem_toDigits {base n : Nat} {c : Char} (h1 : 1 < base) (hc : c ∈ Nat.toDigits base n) :
    ∃ d < base, c = d.digitChar := by
  induction n using Nat.strong_induction_on with
  | _ n ih =>
    by_cases hn : n < base
    · rw [Nat.toDigits_of_lt_base hn, List.mem_singleton] at hc
      exact ⟨n, hn, hc⟩
    · rw [Nat.toDigits_of_base_le h1 (not_lt.1 hn), List.mem_append, List.mem_singleton] at hc
      rcases hc with hc | hc
      · exact ih _ (Nat.div_lt_self (by omega) h1) hc
      · exact ⟨n % base, Nat.mod_lt n (by omega), hc⟩

/-- A number without the letter that marks a hexadecimal one is decimal. -/
theorem numberValue_of_no_x {w : List Char} (hne : w ≠ []) (hx : ∀ c ∈ w, upperChar c ≠ 'X') :
    numberValue w = digitsValue 10 w 0 := by
  match w, hne with
  | [c], _ => rfl
  | c :: x :: rest, _ => exact if_neg fun h => hx x (by simp) h.2

theorem numberValue_decimal (n : Nat) : numberValue (Nat.toDigits 10 n) = some n := by
  have hchar : ∀ d < 10, upperChar d.digitChar ≠ 'X' := by decide
  rw [numberValue_of_no_x Nat.toDigits_ne_nil, digitsValue_toDigits (by decide) (by decide)]
  intro c hc
  obtain ⟨d, hd, rfl⟩ := exists_digitChar_of_mem_toDigits (by decide) hc
  exact hchar d hd

theorem numberValue_hexadecimal (n : Nat) : numberValue ('0' :: 'x' :: Nat.toDigits 16 n) = some n := by
  rw [← digitsValue_toDigits (base := 16) (by decide) (by decide) n]
  cases h : Nat.toDigits 16 n with
  | nil => exact absurd h Nat.toDigits_ne_nil
  | cons d ds => rfl

/-! ### The words of a line (log 18) -/

/-- A character that neither parts words nor begins a comment. -/
abbrev PlainChar (c : Char) : Prop := c ≠ ' ' ∧ c ≠ '\t' ∧ c ≠ ',' ∧ c ≠ ';'

theorem plainChar_of_mem_toDigits {base n : Nat} {c : Char} (h1 : 1 < base) (h16 : base ≤ 16)
    (hc : c ∈ Nat.toDigits base n) : PlainChar c := by
  have hchar : ∀ d < 16, PlainChar d.digitChar := by decide
  obtain ⟨d, hd, rfl⟩ := exists_digitChar_of_mem_toDigits h1 hc
  exact hchar d (hd.trans_le h16)

theorem dropComment_of_plain {w : List Char} (h : ∀ c ∈ w, PlainChar c) : dropComment w = w := by
  induction w with
  | nil => rfl
  | cons c rest ih =>
    obtain ⟨⟨-, -, -, hc⟩, hrest⟩ := List.forall_mem_cons.1 h
    simp [dropComment, hc, ih hrest]

/-- Plain characters only lengthen the word that was begun. -/
theorem splitWords_acc_of_plain {w : List Char} (h : ∀ c ∈ w, PlainChar c) (acc : List Char) (hne : acc ++ w ≠ []) :
    splitWords w acc = [acc.reverse ++ w] := by
  induction w generalizing acc with
  | nil =>
    have hacc : acc ≠ [] := by simpa using hne
    simp [splitWords, hacc]
  | cons c rest ih =>
    obtain ⟨⟨hspace, htab, hcomma, -⟩, hrest⟩ := List.forall_mem_cons.1 h
    simp [splitWords, hspace, htab, hcomma, ih hrest]

theorem splitWords_of_plain {w : List Char} (hne : w ≠ []) (h : ∀ c ∈ w, PlainChar c) : splitWords w [] = [w] :=
  splitWords_acc_of_plain h [] hne

theorem byteOperand_of_numberValue {w : List Char} {n : Nat} (hw : numberValue w = some n) (hn : n < 256) :
    byteOperand w = some (BitVec.ofNat 8 n) := by
  simp [byteOperand, hw, Nat.le_of_lt_succ hn]

/-- A line UPDB with a number below 256 is the word of UPDB with that byte. -/
theorem assemble_updb {w : List Char} {n : Nat} (hne : w ≠ []) (hplain : ∀ c ∈ w, PlainChar c)
    (hw : numberValue w = some n) (hn : n < 256) :
    assemble ["UPDB ".toList ++ w] = some [0x2000#16 + BitVec.ofNat 16 n] := by
  have hwords : splitWords (dropComment ("UPDB ".toList ++ w)) [] = ["UPDB".toList, w] :=
    calc splitWords (dropComment ("UPDB ".toList ++ w)) []
      _ = "UPDB".toList :: splitWords (dropComment w) [] := rfl
      _ = ["UPDB".toList, w] := by rw [dropComment_of_plain hplain, splitWords_of_plain hne hplain]
  have hparse : parseWords ["UPDB".toList, w] = some (.updb (BitVec.ofNat 8 n)) :=
    congrArg (Option.map Instr.updb) (byteOperand_of_numberValue hw hn)
  have hline : assembleLine ("UPDB ".toList ++ w) = some [.updb (BitVec.ofNat 8 n)] := by
    have htext : updsText ("UPDB ".toList ++ w) = none := rfl
    simp only [assembleLine, htext, hwords, hparse, Option.map_some]
  have hbyte : (BitVec.ofNat 8 n).setWidth 16 = BitVec.ofNat 16 n := by
    apply BitVec.eq_of_toNat_eq
    simp; omega
  simp only [assemble, hline, List.map_cons, List.map_nil, encode_updb_eq_add, hbyte, List.append_nil]

/-- Settles O59: UPDB for every number by the value of its digits, every other line by evaluation. -/
theorem assemblerLinesAreTheirWords : Obligations.AssemblerLinesAreTheirWords := by
  refine ⟨by decide, fun n hn => ⟨?decimal, ?hexadecimal⟩, by decide, by decide, by decide, by decide, by decide,
    by decide, by decide, by decide, by decide⟩
  case decimal =>
    exact assemble_updb Nat.toDigits_ne_nil (fun c => plainChar_of_mem_toDigits (by decide) (by decide))
      (numberValue_decimal n) hn
  case hexadecimal =>
    have hdigits : ∀ c ∈ Nat.toDigits 16 n, PlainChar c := fun c => plainChar_of_mem_toDigits (by decide) (by decide)
    exact assemble_updb (w := '0' :: 'x' :: Nat.toDigits 16 n) (List.cons_ne_nil _ _)
      (List.forall_mem_cons.2 ⟨by decide, List.forall_mem_cons.2 ⟨by decide, hdigits⟩⟩) (numberValue_hexadecimal n) hn

end Sys2Proof.Machine
end

section
/-! PROOFS. The data path (`95_test_vectors.md` section 4): table entries, the bit-serial update, containers, and a
message followed by its own digest. -/

namespace Sys2Proof.Machine

open Sys2Proof

/-! ### Table entries (`40_init_table.md` R67, R70) -/

theorem lookup_makeTable_eq {W : Nat} (poly : BitVec W) : lookup (makeTable poly) = tableEntry poly :=
  funext (lookup_makeTable poly)

/-- Eight steps from 0 only shift. -/
@[simp] theorem tableEntry_zero {W : Nat} (poly : BitVec W) : tableEntry poly 0#8 = 0#W := by
  have h0 : (0#8).setWidth W = 0#W := BitVec.setWidth_zero W 8
  rw [tableEntry, h0, shiftSteps_of_low_zero poly 8 0#W fun _ _ => BitVec.getLsbD_zero, BitVec.zero_ushiftRight]

/-- The one bit of 128 reaches bit 0 after seven steps, and the eighth replaces it by the polynomial. -/
theorem tableEntry_128 {W : Nat} (hW : W = 16 ∨ W = 64) (poly : BitVec W) : tableEntry poly 128 = poly := by
  have hseven : shiftSteps poly 7 ((128 : Byte).setWidth W) = 1#W := by
    rw [shiftSteps_of_low_zero poly 7]
    · obtain rfl | rfl := hW <;> rfl
    · obtain rfl | rfl := hW <;> decide
  rw [tableEntry, shiftSteps_add poly 7 1, hseven]
  obtain rfl | rfl := hW <;> simp [shiftSteps, shiftStep]

/-- Entries are linear over XOR (`40_init_table.md` R70). -/
theorem tableEntry_xor {W : Nat} (poly : BitVec W) (a b : Byte) :
    tableEntry poly (a ^^^ b) = tableEntry poly a ^^^ tableEntry poly b := by
  rw [tableEntry, BitVec.setWidth_xor, shiftSteps_xor]; rfl

/-- A shift within the width is the shift of the container. -/
theorem widen_ushiftRight {W : Nat} (hW : W ≤ 64) (v : BitVec W) (n : Nat) : widen (v >>> n) = widen v >>> n := by
  apply BitVec.eq_of_toNat_eq
  rw [widen_toNat _ hW, BitVec.toNat_ushiftRight, BitVec.toNat_ushiftRight, widen_toNat _ hW]

theorem shiftStep_widen {W : Nat} (hW : W ≤ 64) (poly e : BitVec W) :
    shiftStep (widen poly) (widen e) = widen (shiftStep poly e) := by
  have hbit : (widen e).getLsbD 0 = e.getLsbD 0 := by simp [widen]
  rw [shiftStep, shiftStep, hbit]
  split <;> simp only [widen_xor, widen_ushiftRight hW]

theorem shiftSteps_widen {W : Nat} (hW : W ≤ 64) (poly e : BitVec W) (n : Nat) :
    shiftSteps (widen poly) n (widen e) = widen (shiftSteps poly n e) := by
  induction n generalizing e with
  | zero => rfl
  | succ n ih => rw [shiftSteps_succ, shiftStep_widen hW, ih, shiftSteps_succ]

/-- The entries of a narrower polynomial are the entries of its container. -/
theorem tableEntry_widen {W : Nat} (h8 : 8 ≤ W) (hW : W ≤ 64) (poly : BitVec W) (i : Byte) :
    tableEntry (widen poly) i = widen (tableEntry poly i) := by
  have hi : i.setWidth 64 = widen (i.setWidth W) := (BitVec.setWidth_setWidth (by omega)).symm
  rw [tableEntry, hi, shiftSteps_widen hW]; rfl

/-- Settles O10: the entries of 0 and 128 step by step, linearity from the step's, and agreement of the widths from the
container of each step. -/
theorem tableEntriesOfEveryPolynomial : Obligations.TableEntriesOfEveryPolynomial := by
  refine ⟨fun W hW poly => ?_, fun poly i => ?_⟩
  · simp only [lookup_makeTable]
    exact ⟨tableEntry_zero poly, tableEntry_128 hW poly, fun i => (tableEntry poly i).isLt, tableEntry_xor poly⟩
  · rw [lookup_makeTable, lookup_makeTable, ← widen_toNat (tableEntry poly i) (by decide),
      ← tableEntry_widen (by decide) (by decide)]
    rfl

/-! ### The bit-serial update (`95_test_vectors.md` Q2) -/

/-- Above its low byte a register is only shifted by eight steps. -/
theorem shiftSteps_high {W : Nat} (poly reg : BitVec W) :
    shiftSteps poly 8 (reg ^^^ (reg.setWidth 8).setWidth W) = reg >>> 8 := by
  rw [shiftSteps_of_low_zero poly 8]
  · ext k hk
    simp
  · intro k hk
    by_cases hW : k < W
    · simp [hk, hW]
    · exact BitVec.getLsbD_of_ge _ k (not_lt.1 hW)

/-- The table step is the eight bit-serial steps, at every width: the index byte carries the low byte of the register. -/
theorem updateByte_tableEntry {W : Nat} (poly reg : BitVec W) (b : Byte) :
    updateByte reg (tableEntry poly) b = shiftSteps poly 8 (reg ^^^ b.setWidth W) := by
  have hsplit : reg ^^^ b.setWidth W =
      (reg ^^^ (reg.setWidth 8).setWidth W) ^^^ (b ^^^ reg.setWidth 8).setWidth W := by
    rw [BitVec.setWidth_xor, BitVec.xor_comm (b.setWidth W), ← BitVec.xor_assoc, BitVec.xor_assoc reg, BitVec.xor_self,
      BitVec.xor_zero]
  rw [hsplit, shiftSteps_xor, shiftSteps_high]; rfl

theorem updateBytes_tableEntry {W : Nat} (poly reg : BitVec W) (bytes : List Byte) :
    updateBytes reg (tableEntry poly) bytes = bytes.foldl (fun r b => shiftSteps poly 8 (r ^^^ b.setWidth W)) reg := by
  induction bytes generalizing reg with
  | nil => rfl
  | cons b rest ih => rw [updateBytes_cons, ih, updateByte_tableEntry, List.foldl_cons]

/-- Settles O11: one byte at a time, the table entry is what the eight steps make of the low byte. -/
theorem tableDrivenUpdateIsBitSerial : Obligations.TableDrivenUpdateIsBitSerial := fun W _ poly reg bytes => by
  rw [lookup_makeTable_eq, updateBytes_tableEntry]

/-! ### Containers (`41_update.md` R79) -/

theorem updateByte_widen {W : Nat} (hW : W ≤ 64) (reg : BitVec W) (table : Byte → BitVec W) (b : Byte) :
    widen (updateByte reg table b) = updateByte (widen reg) (fun i => widen (table i)) b := by
  have hindex : (widen reg).setWidth 8 = reg.setWidth 8 := BitVec.setWidth_setWidth_of_le reg (by decide)
  rw [updateByte, updateByte, widen_xor, widen_ushiftRight hW, hindex]

theorem updateBytes_widen {W : Nat} (hW : W ≤ 64) (reg : BitVec W) (table : Byte → BitVec W) (bytes : List Byte) :
    widen (updateBytes reg table bytes) = updateBytes (widen reg) (fun i => widen (table i)) bytes := by
  induction bytes generalizing reg with
  | nil => rfl
  | cons b rest ih => rw [updateBytes_cons, ih, updateByte_widen hW, updateBytes_cons]

/-- Settles O14: the fold commutes with zero-extension, and values that fit are their own zero-extension. -/
theorem containersAgreeWithTheWidth : Obligations.ContainersAgreeWithTheWidth := by
  intro w reg table bytes hw hreg htable
  have hagree : widen (updateBytes (narrow w.toNat reg) (fun i => narrow w.toNat (table i)) bytes) =
      updateBytes reg table bytes := by
    rw [updateBytes_widen (width_le w hw), widen_narrow _ _ hreg]
    simp only [widen_narrow _ _ (htable _)]
  exact ⟨hagree ▸ fits_widen _ (width_le w hw), hagree⟩

/-! ### A message and its own digest (`95_test_vectors.md` Q10) -/

/-- The update of one byte is linear over XOR of register and byte together. -/
theorem updateByte_xor {W : Nat} (poly r q : BitVec W) (a b : Byte) :
    updateByte (r ^^^ q) (tableEntry poly) (a ^^^ b) =
      updateByte r (tableEntry poly) a ^^^ updateByte q (tableEntry poly) b := by
  have hindex : a ^^^ b ^^^ (r ^^^ q).setWidth 8 = (a ^^^ r.setWidth 8) ^^^ (b ^^^ q.setWidth 8) := by
    rw [BitVec.setWidth_xor]; ac_rfl
  simp only [updateByte, hindex, tableEntry_xor, BitVec.ushiftRight_xor_distrib]
  ac_rfl

/-- Its own low byte shifts a register by one byte. -/
theorem updateByte_low {W : Nat} (poly r : BitVec W) : updateByte r (tableEntry poly) (r.setWidth 8) = r >>> 8 := by
  rw [updateByte, BitVec.xor_self, tableEntry_zero, BitVec.xor_zero]

theorem byteAt_widen {W : Nat} (hW : W ≤ 64) (v : BitVec W) (k : Nat) :
    byteAt (widen v) k = (v >>> (8 * k)).setWidth 8 := by
  rw [byteAt, ← BitVec.setWidth_ushiftRight_eq_extractLsb, ← widen_ushiftRight hW]
  exact BitVec.setWidth_setWidth_of_le _ (by decide)

theorem byteAt_xor (u v : Container) (k : Nat) : byteAt (u ^^^ v) k = byteAt u k ^^^ byteAt v k :=
  BitVec.extractLsb'_xor

/-- After `n` bytes of its own digest the register is the rest of what it was and what the bytes of the seed leave. -/
theorem updateBytes_own_bytes {W : Nat} (hW : W ≤ 64) (poly r seed : BitVec W) (n : Nat) :
    updateBytes r (tableEntry poly) ((List.range n).map (byteAt (widen (r ^^^ seed)))) =
      (r >>> (8 * n)) ^^^ updateBytes 0 (tableEntry poly) ((List.range n).map (byteAt (widen seed))) := by
  induction n with
  | zero => simp
  | succ n ih =>
    simp only [List.range_succ, List.map_append, List.map_cons, List.map_nil, updateBytes_append, updateBytes_cons,
      updateBytes_nil, ih]
    rw [widen_xor, byteAt_xor, byteAt_widen hW, updateByte_xor, updateByte_low, ← BitVec.shiftRight_add, Nat.mul_succ]

theorem updateBytes_own_digest {W : Nat} (hW : W = 16 ∨ W = 64) (poly r seed : BitVec W) :
    updateBytes r (tableEntry poly) (serBytes (widen (finalizeValue r seed)) W .lsbFirst) =
      updateBytes 0 (tableEntry poly) (serBytes (widen seed) W .lsbFirst) := by
  have h64 : W ≤ 64 := by omega
  have hall : r >>> (8 * (W / 8)) = 0#W := by
    have h8 : 8 * (W / 8) = W := by omega
    rw [h8, BitVec.ushiftRight_eq_zero (le_refl W)]
  exact (updateBytes_own_bytes h64 poly r seed (W / 8)).trans (by rw [hall, BitVec.zero_xor]; rfl)

/-- Bytes 0 leave a register of 0. -/
theorem updateBytes_zero {W : Nat} (poly : BitVec W) (n : Nat) :
    updateBytes 0#W (tableEntry poly) (List.replicate n 0#8) = 0#W := by
  have hbyte : updateByte 0#W (tableEntry poly) 0#8 = 0#W := by simp [updateByte]
  induction n with
  | zero => rfl
  | succ n ih => rw [List.replicate_succ, updateBytes_cons, hbyte, ih]

theorem serBytes_zero (W : Nat) (order : ByteOrder) : serBytes 0#64 W order = List.replicate (W / 8) 0#8 := by
  cases order <;> simp [serBytes, byteAt]

/-- Settles O15: the bytes of its own digest shift the register out and leave what the bytes of the seed leave from 0. -/
theorem appendedDigestLeavesAConstant : Obligations.AppendedDigestLeavesAConstant := by
  refine ⟨fun W hW poly seed start message => ?_, ?_⟩
  · simp only [lookup_makeTable_eq, updateBytes_append, updateBytes_own_digest hW]
    refine ⟨trivial, fun hseed => ?_⟩
    have hzero : widen (0#W) = 0#64 := BitVec.setWidth_zero 64 W
    rw [show seed = 0#W from hseed, hzero, serBytes_zero]
    exact updateBytes_zero poly _
  · rw [lookup_makeTable_eq]
    decide

end Sys2Proof.Machine
end

section
/-! PROOFS. Serialization and views (`10_state.md` R17 to R20, `42_finalize_serialize.md` R87 to R89, `20_memory.md`
R43): the digits of a byte, the packing of a sequence, and what the views read as. -/

namespace Sys2Proof.Machine

open Sys2Proof

/-! ### Digits (`42_finalize_serialize.md` R88, R89) -/

theorem hexDigits_getElem? (d : BitVec 4) : "0123456789abcdef".toList[d.toNat]? = some (hexChar d) := by
  revert d; decide

theorem hexCode_of_le_nine (d : BitVec 4) (h : d.toNat ≤ 9) : hexCode d = BitVec.ofNat 8 (0x30 + d.toNat) := by
  revert d; decide

theorem hexCode_of_ten_le (d : BitVec 4) (h : 10 ≤ d.toNat) : hexCode d = BitVec.ofNat 8 (0x61 + (d.toNat - 10)) := by
  revert d; decide

/-- The code of a digit is the code of its character (log 17). -/
theorem hexCode_eq (d : BitVec 4) : hexCode d = BitVec.ofNat 8 (hexChar d).toNat := by
  revert d; decide

theorem hexCode_injective : Function.Injective hexCode := by
  unfold Function.Injective; decide

@[simp] theorem serHex_nil : serHex [] = [] := rfl

@[simp] theorem serHex_cons (b : Byte) (rest : List Byte) :
    serHex (b :: rest) = hexChar (b.extractLsb' 4 4) :: hexChar (b.extractLsb' 0 4) :: serHex rest := rfl

theorem serHex_length (bytes : List Byte) : (serHex bytes).length = 2 * bytes.length := by
  induction bytes with
  | nil => rfl
  | cons b rest ih => simp only [serHex_cons, List.length_cons, ih]; omega

/-- The two digits of byte `k`, the high nibble first. -/
theorem serHex_getElem? {bytes : List Byte} {k : Nat} {b : Byte} (h : bytes[k]? = some b) :
    (serHex bytes)[2 * k]? = some (hexChar (b.extractLsb' 4 4)) ∧
      (serHex bytes)[2 * k + 1]? = some (hexChar (b.extractLsb' 0 4)) := by
  induction bytes generalizing k with
  | nil => cases h
  | cons c rest ih =>
    cases k with
    | zero => cases h; exact ⟨rfl, rfl⟩
    | succ k => exact ih (k := k) h

theorem serHexCodes_eq_map (bytes : List Byte) :
    serHexCodes bytes = (serHex bytes).map fun c => BitVec.ofNat 8 c.toNat := by
  induction bytes with
  | nil => rfl
  | cons b rest ih => rw [serHex_cons, List.map_cons, List.map_cons, ← hexCode_eq, ← hexCode_eq, ← ih]; rfl

/-- Settles O20: the digits by their table of sixteen, the sequence by induction over the bytes. -/
theorem serHexWritesTwoDigitsPerByte : Obligations.SerHexWritesTwoDigitsPerByte :=
  ⟨fun d => ⟨hexDigits_getElem? d, hexCode_of_le_nine d, hexCode_of_ten_le d⟩,
    fun bytes => ⟨serHex_length bytes, fun _ _ => serHex_getElem?, serHexCodes_eq_map bytes⟩⟩

theorem serHexCodes_length (bytes : List Byte) : (serHexCodes bytes).length = 2 * bytes.length := by
  rw [serHexCodes_eq_map, List.length_map, serHex_length]

/-- A byte is given by its two digits, so the string gives the bytes. -/
theorem serHexCodes_injective : Function.Injective serHexCodes := by
  intro A B h
  induction A generalizing B with
  | nil =>
    cases B with
    | nil => rfl
    | cons => cases h
  | cons a A ih =>
    cases B with
    | nil => cases h
    | cons b B =>
      obtain ⟨hhi, hlo, hrest⟩ : hexCode (a.extractLsb' 4 4) = hexCode (b.extractLsb' 4 4) ∧
          hexCode (a.extractLsb' 0 4) = hexCode (b.extractLsb' 0 4) ∧ serHexCodes A = serHexCodes B := by
        simpa [serHexCodes, nibbles] using h
      have hab : a.extractLsb' 4 4 ++ a.extractLsb' 0 4 = b :=
        (append_eq_iff (m := 4) (n := 4) _ _ b).2 ⟨(hexCode_injective hhi).symm, (hexCode_injective hlo).symm⟩
      rw [← hab, (append_eq_iff (m := 4) (n := 4) _ _ a).2 ⟨rfl, rfl⟩, ih hrest]

/-! ### Packing (`10_state.md` R17, R18) -/

theorem getLsbD_pack_cons_low {n j : Nat} (b : Byte) (rest : List Byte) (hj : j < 8) (hn : j < n) :
    (pack n (b :: rest)).getLsbD j = b.getLsbD j := by
  simp [pack, hj, hn]

theorem getLsbD_pack_cons_high {n j : Nat} (b : Byte) (rest : List Byte) (hn : 8 + j < n) :
    (pack n (b :: rest)).getLsbD (8 + j) = (pack n rest).getLsbD j := by
  rw [BitVec.getLsbD_eq_getElem (show j < n by omega)]
  simp [pack, hn]

/-- Element `k` of a sequence that fits the container stands at bits 8k+7:8k. -/
theorem extractLsb'_pack {n : Nat} {bytes : List Byte} {k : Nat} {b : Byte} (hn : 8 * bytes.length ≤ n)
    (h : bytes[k]? = some b) : (pack n bytes).extractLsb' (8 * k) 8 = b := by
  induction bytes generalizing k with
  | nil => cases h
  | cons c rest ih =>
    rw [List.length_cons] at hn
    apply BitVec.eq_of_getLsbD_eq
    intro j hj
    rw [BitVec.getLsbD_extractLsb', decide_eq_true hj, Bool.true_and]
    cases k with
    | zero =>
      cases h
      rw [Nat.mul_zero, Nat.zero_add, getLsbD_pack_cons_low _ _ hj (by omega)]
    | succ k =>
      have hk : k < rest.length := Nat.lt_of_succ_lt_succ (List.getElem?_eq_some_iff.1 h).1
      have hrest := congrArg (BitVec.getLsbD · j) (ih (k := k) (by omega) h)
      simp only [BitVec.getLsbD_extractLsb', decide_eq_true hj, Bool.true_and] at hrest
      rw [show 8 * (k + 1) + j = 8 + (8 * k + j) by omega, getLsbD_pack_cons_high _ _ (by omega), hrest]

/-- Above a sequence of bytes the container is 0. -/
theorem pack_toNat_lt (n : Nat) (bytes : List Byte) : (pack n bytes).toNat < 2 ^ (8 * bytes.length) := by
  induction bytes with
  | nil => simp [pack]
  | cons b rest ih =>
    rw [pack, BitVec.toNat_or, BitVec.toNat_shiftLeft, BitVec.toNat_setWidth, List.length_cons, Nat.mul_succ]
    have hshift : (pack n rest).toNat <<< 8 < 2 ^ (8 * rest.length + 8) := by
      rw [Nat.shiftLeft_eq, Nat.pow_add]; omega
    have hbyte : b.toNat < 2 ^ (8 * rest.length + 8) := b.isLt.trans_le (Nat.pow_le_pow_right (by decide) (by omega))
    exact Nat.or_lt_two_pow ((Nat.mod_le _ _).trans_lt hshift) ((Nat.mod_le _ _).trans_lt hbyte)

/-- A sequence that fits the container is given by its length and its packing. -/
theorem pack_injective {n : Nat} {A B : List Byte} (hlen : A.length = B.length) (hn : 8 * A.length ≤ n)
    (h : pack n A = pack n B) : A = B := by
  apply List.ext_getElem hlen
  intro k hA hB
  rw [← extractLsb'_pack hn (List.getElem?_eq_getElem hA), h,
    extractLsb'_pack (hlen ▸ hn) (List.getElem?_eq_getElem hB)]

/-! ### The views (`10_state.md` R17, R18, R20) -/

theorem serHexCodes_getElem? {bytes : List Byte} {k : Nat} {c : Char} (h : (serHex bytes)[k]? = some c) :
    (serHexCodes bytes)[k]? = some (BitVec.ofNat 8 c.toNat) := by
  rw [serHexCodes_eq_map, List.getElem?_map, h]; rfl

section

variable (v : Container) {w : BitVec 8} (hw : WidthOk w) (order : ByteOrder)

include hw

theorem widthOk_mul_div : 8 * (w.toNat / 8) = w.toNat := by
  obtain rfl | rfl := hw <;> rfl

/-- The bytes of a value of a supported width fill exactly the width. -/
theorem serBytes_bits : 8 * (serBytes v w.toNat order).length = w.toNat := by
  rw [serBytes_length, widthOk_mul_div hw]

/-- The digits of a value of a supported width fill twice the width. -/
theorem serHexCodes_bits : 8 * (serHexCodes (serBytes v w.toNat order)).length = 2 * w.toNat := by
  rw [serHexCodes_length, Nat.mul_left_comm, serBytes_bits v hw order]

theorem extractLsb'_bytesView {k : Nat} {b : Byte} (h : (serBytes v w.toNat order)[k]? = some b) :
    (bytesView v w order).extractLsb' (8 * k) 8 = b :=
  extractLsb'_pack ((serBytes_bits v hw order).trans_le (width_le w hw)) h

theorem bytesView_toNat_lt : (bytesView v w order).toNat < 2 ^ w.toNat :=
  (pack_toNat_lt 64 _).trans_eq (by rw [serBytes_bits v hw order])

theorem serHexCodes_bits_le : 8 * (serHexCodes (serBytes v w.toNat order)).length ≤ 128 := by
  have := width_le w hw
  rw [serHexCodes_bits v hw order]; omega

theorem extractLsb'_hexView {k : Nat} {c : Char} (h : (serHex (serBytes v w.toNat order))[k]? = some c) :
    (hexView v w order).extractLsb' (8 * k) 8 = BitVec.ofNat 8 c.toNat :=
  extractLsb'_pack (serHexCodes_bits_le v hw order) (serHexCodes_getElem? h)

theorem hexView_toNat_lt : (hexView v w order).toNat < 2 ^ (2 * w.toNat) :=
  (pack_toNat_lt 128 _).trans_eq (by rw [serHexCodes_bits v hw order])

end

/-! ### What a read of a register finds (`10_state.md` R27, R34) -/

section

variable {s : State} {r : Reg}

theorem readReg_of_holds (h : s.holds r = true) : s.readReg r = s.content r :=
  if_pos h

theorem readReg_of_not_holds (h : s.holds r = false) : s.readReg r = (Config.freeReg s.draws r.no).setWidth r.width :=
  if_neg (by rw [h]; exact Bool.false_ne_true)

end

/-- Settles O21: in Finalized the view is the packing of the bytes, and otherwise the register holds no value. -/
theorem outBytesPacksTheDigest : Obligations.OutBytesPacksTheDigest := by
  refine fun s => ⟨fun hl hw => ?_, fun hl => readReg_of_not_holds (decide_eq_false hl)⟩
  rw [readReg_of_holds (r := .outBytes) (decide_eq_true hl)]
  exact ⟨fun k b hk => extractLsb'_bytesView _ hw _ hk, bytesView_toNat_lt _ hw _⟩

/-- Settles O22: in Finalized the view is the packing of the codes, which are those of the characters. -/
theorem outHexPacksTheDigits : Obligations.OutHexPacksTheDigits := by
  refine fun s => ⟨fun hl hw => ?_, fun hl => ?_⟩
  · rw [readReg_of_holds (r := .outHex) (decide_eq_true hl)]
    exact ⟨fun k c hk => extractLsb'_hexView _ hw _ hk, hexView_toNat_lt _ hw _⟩
  · rw [readReg_of_not_holds (r := .outHex) (decide_eq_false hl)]
    exact BitVec.setWidth_eq _

/-- Settles O23: the content of both pairs of views is the same function of value, width and BYTE_ORDER. -/
theorem oneShotViewsAreBuiltAlike : Obligations.OneShotViewsAreBuiltAlike := by
  refine fun s => ⟨fun hv => ⟨?_, ?_⟩, fun hv => ⟨readReg_of_not_holds hv, ?_⟩⟩
  · rw [readReg_of_holds (r := .ooutBytes) hv]; rfl
  · rw [readReg_of_holds (r := .ooutHex) hv]; rfl
  · rw [readReg_of_not_holds (r := .ooutHex) hv]
    exact BitVec.setWidth_eq _

/-! ### The two byte orders (`20_memory.md` R43, `95_test_vectors.md` Q8) -/

theorem getLsbD_byteAt (v : Container) {k j : Nat} (hj : j < 8) : (byteAt v k).getLsbD j = v.getLsbD (8 * k + j) := by
  rw [byteAt, BitVec.getLsbD_extractLsb', decide_eq_true hj, Bool.true_and]

/-- Values that fit a supported width are given by the bytes within it. -/
theorem eq_of_byteAt {u v : Container} {w : BitVec 8} (hw : WidthOk w) (hu : Fits u w) (hv : Fits v w)
    (h : ∀ k < w.toNat / 8, byteAt u k = byteAt v k) : u = v := by
  have hW := widthOk_mul_div hw
  apply BitVec.eq_of_getLsbD_eq
  intro j _
  by_cases hj : j < w.toNat
  · have hbyte := h (j / 8) (by omega)
    rw [← Nat.div_add_mod j 8, ← getLsbD_byteAt u (by omega), hbyte, getLsbD_byteAt v (by omega)]
  · have hhigh : 2 ^ w.toNat ≤ 2 ^ j := Nat.pow_le_pow_right (by decide) (not_lt.1 hj)
    rw [BitVec.getLsbD, BitVec.getLsbD, Nat.testBit_lt_two_pow (hu.trans_le hhigh),
      Nat.testBit_lt_two_pow (hv.trans_le hhigh)]

theorem bytesView_lsbFirst {v : Container} {w : BitVec 8} (hw : WidthOk w) (hv : Fits v w) :
    bytesView v w .lsbFirst = v :=
  eq_of_byteAt hw (bytesView_toNat_lt v hw _) hv fun _ hk => extractLsb'_bytesView v hw _ (serBytes_lsbFirst_getElem? hk)

/-- With either byte order the bytes give the value. -/
theorem eq_of_serBytes {u v : Container} {w : BitVec 8} {order : ByteOrder} (hw : WidthOk w) (hu : Fits u w)
    (hv : Fits v w) (h : serBytes u w.toNat order = serBytes v w.toNat order) : u = v := by
  have hlsb : serBytes u w.toNat .lsbFirst = serBytes v w.toNat .lsbFirst := by
    cases order with
    | lsbFirst => exact h
    | msbFirst => rwa [serBytes_msbFirst_eq_reverse, serBytes_msbFirst_eq_reverse, List.reverse_inj] at h
  rw [← bytesView_lsbFirst hw hu, bytesView, hlsb, ← bytesView, bytesView_lsbFirst hw hv]

theorem eq_of_hexView {u v : Container} {w : BitVec 8} {order : ByteOrder} (hw : WidthOk w) (hu : Fits u w)
    (hv : Fits v w) (h : hexView u w order = hexView v w order) : u = v :=
  eq_of_serBytes hw hu hv (serHexCodes_injective
    (pack_injective (by simp only [serHexCodes_length, serBytes_length]) (serHexCodes_bits_le u hw order) h))

/-- Settles O24: a value is given by its bytes, the bytes by their digits, and the digits by their packing. -/
theorem viewsOfTheTwoByteOrders : Obligations.ViewsOfTheTwoByteOrders := fun _ v hw hv =>
  ⟨bytesView_lsbFirst hw hv, fun _ hk => extractLsb'_bytesView v hw _ (serBytes_msbFirst_getElem? hk),
    fun _ _ hu h => eq_of_hexView hw hu hv h⟩

end Sys2Proof.Machine
end

section
/-! PROOFS. Commands (`40_init_table.md` R73 to R75, `41_update.md` R84, `42_finalize_serialize.md` R86, `43_oneshot.md`
R100 to R103): what they answer and leave alone, the restart of INIT, and streaming against one call. -/

namespace Sys2Proof.Machine

open Sys2Proof

/-! ### Operands (`40_init_table.md` R68) -/

section

variable {s : State}

theorem selectCfg_arg_of_held (hw : s.argWidthHeld = true) (hp : s.argPolyHeld = true) (hs : s.argSeedHeld = true) :
    s.selectCfg .arg = some { width := s.argWidth, poly := s.argPoly, seed := s.argSeed } := by
  rw [State.selectCfg, State.argCfg, readReg_of_holds (r := .argWidth) hw, readReg_of_holds (r := .argPoly) hp,
    readReg_of_holds (r := .argSeed) hs]
  rfl

/-- The source's answers are no part of a configuration. -/
theorem selectCfg_setSrc (c : CfgSel) (src : Option SrcScript) :
    ({ s with src := src } : State).selectCfg c = s.selectCfg c := by
  cases c <;> rfl

end

/-- Settles O16: a held ARG register is read as it stands, the other three values by the definition. -/
theorem selectedConfigurationIsTheNamedOne : Obligations.SelectedConfigurationIsTheNamedOne := fun _ =>
  ⟨selectCfg_arg_of_held, rfl, rfl, rfl⟩

/-! ### Terms that are no command, and the answer of every command -/

theorem exec_of_not_wellFormed {i : Instr} (hi : i.wellFormed = false) (s : State) :
    exec i s = .next (s.raise (.illegalCommand (encode i))) := by
  cases i with
  | init c | computeBuf c _ | computeSrc c =>
    cases c with
    | reserved => rfl
    | arg | std16 | std64 => cases hi
  | updb | update | finalize | finalizeHex => cases hi

/-- Settles O33: the word of each ill-formed term is the one its record shows. -/
theorem reservedSelectorIsIllegal : Obligations.ReservedSelectorIsIllegal := by
  intro s
  refine ⟨?_, ?_, ?_, ?_⟩ <;> rw [exec_of_not_wellFormed rfl, State.raise_illegalCommand] <;> rfl

/-- Settles O46: every branch of every meaning is a next state. -/
theorem commandsAnswerANextState : Obligations.CommandsAnswerANextState := fun i s => by
  cases i <;> exact ⟨_, rfl⟩

/-! ### What every command leaves alone -/

/-- Settles O49: no effect of a command writes an argument register, BUF or the host's side. -/
theorem commandsKeepTheHostsStorage : Obligations.CommandsKeepTheHostsStorage := by
  intro i s t h
  cases exec_effect i s t h <;> exact ⟨rfl, rfl, rfl, rfl, rfl, rfl, rfl, rfl, rfl, fun _ => rfl, rfl, rfl, rfl⟩

/-! ### The layouts of ERRINFO (`10_state.md` R26) -/

theorem toNat_zero_append (m : Nat) {n : Nat} (v : BitVec n) : (0#m ++ v).toNat = v.toNat := by
  rw [BitVec.toNat_append, BitVec.toNat_zero, Nat.zero_shiftLeft, Nat.zero_or]

theorem ioFailure_openSource_info (n : BitVec 63) : (CmdError.ioFailure .openSource n).info.toNat = n.toNat :=
  toNat_zero_append 1 n

theorem ioFailure_readSource_info (n : BitVec 63) :
    (CmdError.ioFailure .readSource n).info.toNat = 2 ^ 63 + n.toNat := by
  rw [CmdError.info, IoPhase.bit, BitVec.toNat_append, ← Nat.shiftLeft_add_eq_or_of_lt n.isLt]
  rfl

theorem illegalCommand_info (w : CmdWord) : (CmdError.illegalCommand w).info.toNat = w.toNat :=
  toNat_zero_append 48 w

/-- No error has the result code OK. -/
theorem CmdError.result_ne_ok (e : CmdError) : e.result ≠ .ok := by
  cases e <;> exact nofun

/-- Settles O38: each layout as a number, and a completion that is OK is no raised error. -/
theorem errinfoLayouts : Obligations.ErrinfoLayouts := by
  refine ⟨fun c => by cases c <;> rfl, fun l => by cases l <;> rfl,
    fun n => ⟨ioFailure_openSource_info n, ioFailure_readSource_info n⟩, illegalCommand_info,
    fun i s t h hidle hok => ?_⟩
  cases (exec_effect i s t h).completion hidle with
  | ok _ _ hinfo => exact hinfo
  | failed e => exact absurd hok e.result_ne_ok

/-! ### One-shot commands that give no result (`43_oneshot.md` R100, R103) -/

theorem exec_computeSrc_of_noAnswer {s : State} {c : CfgSel} {cfg : Cfg} (hsel : s.selectCfg c = some cfg)
    (hok : cfg.Supported) (hr : srcRun cfg.entries cfg.start s.srcScript = .noAnswer) :
    exec (.computeSrc c) s = .next s.useSrc.waitForSrc := by
  simp only [exec, execComputeSrc, hsel, (check_none_iff cfg).2 hok, hr]

theorem srcRun_opened_silent {W : Nat} (table : Byte → BitVec W) (seed : BitVec W) (bytes : List Byte) :
    srcRun table seed (.opened bytes .silent) = .noAnswer :=
  srcLoop_eq table .silent bytes seed 0#63

/-- Settles O32: both silent scripts give no answer, and the engine then waits. -/
theorem unansweredSourceLeavesTheEngineWaiting : Obligations.UnansweredSourceLeavesTheEngineWaiting := by
  intro s c cfg hsel hok hsrc
  have hr : srcRun cfg.entries cfg.start s.srcScript = .noAnswer := by
    obtain hsrc | ⟨bytes, hsrc⟩ := hsrc <;> rw [hsrc]
    · rfl
    · exact srcRun_opened_silent ..
  exact exec_computeSrc_of_noAnswer hsel hok hr

/-- A one-shot command that fails only raises its error and clears OVALID, and may have used up the source's answers. -/
theorem Effect.failed_oneShot {i : Instr} {s t : State} (h : Effect i s t) (hwf : i.wellFormed = true)
    (hone : i.isOneShot = true) (hidle : t.engine = .idle) (hfail : t.result ≠ .ok) :
    ∃ e src, t = { s.raiseOneShot e with src := src } := by
  cases h with
  | badOneShot hi c => exact ⟨.invalidArgument c, s.src, rfl⟩
  | badSource hi p n => exact ⟨.ioFailure p n, none, rfl⟩
  | illegal hi => rw [hwf] at hi; cases hi
  | badArgument hi => obtain ⟨_, rfl⟩ | ⟨_, rfl⟩ := hi <;> cases hone
  | badState hp => exact absurd hone (not_isOneShot_of_not_permits hp)
  | installed | absorbed | froze | reread | stored | storedFromSrc => exact absurd rfl hfail
  | waits => simp at hidle

/-- Settles O40: the failure is one raised error with OVALID cleared, and a read goes by OVALID. -/
theorem failedOneShotExposesNothing : Obligations.FailedOneShotExposesNothing := by
  refine ⟨fun i s t _ hwf hone h hidle hfail => ?_, fun s t w hw h => ?_⟩
  · obtain ⟨e, src, rfl⟩ := (exec_effect i s t h).failed_oneShot hwf hone hidle hfail
    exact ⟨rfl, readReg_of_not_holds rfl, readReg_of_not_holds rfl, readReg_of_not_holds rfl,
      (readReg_of_not_holds rfl).trans (BitVec.setWidth_eq _)⟩
  · rw [runWord_of_not_legalWord hw] at h
    cases h; rfl

/-! ### INIT restarts (`40_init_table.md` R73) -/

/-- An INIT that completes OK installed the configuration it selects. -/
theorem exec_init_ok {s t : State} {c : CfgSel} (h : exec (.init c) s = .next t) (hres : t.result = .ok) :
    ∃ cfg, s.selectCfg c = some cfg ∧ cfg.Supported ∧ t = (s.install cfg).completeOk := by
  cases hsel : s.selectCfg c with
  | none =>
    rw [exec_next_unique h (exec_of_not_wellFormed (i := .init c) (selectCfg_none s c hsel) s)] at hres
    cases hres
  | some cfg =>
    cases hcheck : cfg.check with
    | some cause => rw [exec_next_unique h (exec_init_of_check hsel hcheck)] at hres; cases hres
    | none =>
      have hok := (check_none_iff cfg).1 hcheck
      exact ⟨cfg, rfl, hok, exec_next_unique h (exec_init_of_supported hsel hok)⟩

/-- INIT does not write the registers it reads. -/
theorem selectCfg_install_of_held {s : State} {c : CfgSel} (cfg : Cfg)
    (hheld : c = .arg → s.argWidthHeld = true ∧ s.argPolyHeld = true ∧ s.argSeedHeld = true) :
    (s.install cfg).completeOk.selectCfg c = s.selectCfg c := by
  cases c with
  | arg =>
    obtain ⟨hw, hp, hs⟩ := hheld rfl
    rw [selectCfg_arg_of_held hw hp hs, selectCfg_arg_of_held (s := (s.install cfg).completeOk) hw hp hs]
    rfl
  | std16 | std64 | reserved => rfl

/-- Settles O44: the second INIT selects the same configuration, and installing it overwrites the whole context. -/
theorem initRestartsFromAnyContext : Obligations.InitRestartsFromAnyContext := by
  intro s t c hheld h hres
  obtain ⟨cfg, hsel, hok, rfl⟩ := exec_init_ok h hres
  refine ⟨exec_init_of_supported ((selectCfg_install_of_held cfg hheld).trans hsel) hok,
    fun life cw cp cs reg table => ?_⟩
  have hcontext := (s.selectCfg_withContext ⟨life, cw, cp, cs, reg, s.digest, table⟩ c).trans hsel
  exact exec_init_of_supported hcontext hok

/-! ### A run of UPDBs (`41_update.md` R84) -/

theorem runInstrs_cons {i : Instr} {s t : State} (h : exec i s = .next t) (rest : List Instr) :
    runInstrs (i :: rest) s = runInstrs rest t := by
  simp only [runInstrs, h]

theorem runInstrs_append {A : List Instr} {s t : State} (h : runInstrs A s = .next t) (B : List Instr) :
    runInstrs (A ++ B) s = runInstrs B t := by
  induction A generalizing s with
  | nil => cases h; rfl
  | cons i rest ih =>
    obtain ⟨u, hu⟩ := commandsAnswerANextState i s
    rw [runInstrs_cons hu] at h
    rw [List.cons_append, runInstrs_cons hu, ih h]

/-- No byte: a register of CFG_WIDTH bits stays as it is. -/
theorem State.absorb_nil {s : State} (hreg : Fits s.reg s.cfgWidth) : s.absorb [] = s := by
  rw [State.absorb, updateBytes_nil, widen_narrow _ _ hreg]

/-- Bytes are absorbed one after the other (`41_update.md` R78). -/
theorem State.absorb_cons {s : State} (hw : WidthOk s.cfgWidth) (b : Byte) (rest : List Byte) :
    (s.absorb [b]).absorb rest = s.absorb (b :: rest) := by
  simp only [State.absorb, narrow_widen _ (width_le _ hw), updateBytes_cons, updateBytes_nil]

/-- The UPDBs over some bytes absorb them; RESULT is OK but for no byte at all. -/
theorem runInstrs_updbs {s : State} (hl : s.life = .initialized) (hw : WidthOk s.cfgWidth)
    (hreg : Fits s.reg s.cfgWidth) (bytes : List Byte) :
    ∃ result draws,
      runInstrs (bytes.map .updb) s = .next { s.absorb bytes with result := result, draws := draws } := by
  induction bytes generalizing s with
  | nil => exact ⟨s.result, s.draws, by rw [State.absorb_nil hreg]; rfl⟩
  | cons b rest ih =>
    obtain ⟨result, draws, hrest⟩ := ih (s := (s.absorb [b]).completeOk) hl hw (fits_widen _ (width_le _ hw))
    refine ⟨result, draws, ?_⟩
    rw [List.map_cons, runInstrs_cons (exec_updb_of_initialized hl), hrest,
      ← State.absorb_cons hw b rest]
    rfl

/-- Settles O43: the UPDBs absorb the bytes one by one, the UPDATE all at once. -/
theorem updateEqualsItsUpdbs : Obligations.UpdateEqualsItsUpdbs := by
  intro s l bytes hl hw hreg hcap hlen hbytes hreads
  obtain ⟨result, draws, hrun⟩ := runInstrs_updbs hl hw hreg bytes
  refine ⟨_, hrun, ?_⟩
  rw [exec_update_of_ok hl (effectiveLength_ok s l hcap hlen), hbytes, bufBytes_of_reads s bytes hreads]
  rfl

/-! ### Streaming and one call (`43_oneshot.md` R101, `95_test_vectors.md` Q9) -/

/-- The checksum of a byte sequence under a configuration, in its container. -/
def Cfg.checksum (cfg : Cfg) (bytes : List Byte) : Container :=
  widen (finalizeValue (updateBytes cfg.start cfg.entries bytes) cfg.start)

/-- The context INIT installs computes with the table a one-shot command makes for itself (`43_oneshot.md` R102). -/
theorem narrow_lookup_table {cfg : Cfg} (hw : WidthOk cfg.width) :
    (fun i => narrow cfg.width.toNat (lookup cfg.table i)) = cfg.entries := by
  funext i
  rw [lookup_cfgTable, narrow_widen _ (width_le _ hw), cfg_entries]

/-- Absorbing from a fresh context and freezing leaves the checksum. -/
theorem freeze_absorb_install_digest (s : State) {cfg : Cfg} (hw : WidthOk cfg.width) (bytes : List Byte) :
    ((s.install cfg).absorb bytes).freeze.digest = cfg.checksum bytes := by
  simp only [State.freeze, State.absorb, State.install, narrow_lookup_table hw, narrow_widen _ (width_le _ hw)]
  rfl

/-- INIT, one UPDB per byte and FINALIZE leave the checksum in DIGEST. -/
theorem runInstrs_stream {s : State} {c : CfgSel} {cfg : Cfg} (hsel : s.selectCfg c = some cfg) (hok : cfg.Supported)
    (bytes : List Byte) :
    ∃ t, runInstrs (.init c :: (bytes.map .updb ++ [.finalize])) s = .next t ∧ t.life = .finalized ∧
      t.cfgWidth = cfg.width ∧ t.digest = cfg.checksum bytes ∧ t.params = s.params := by
  obtain ⟨hw, hp, hs⟩ := hok
  obtain ⟨result, draws, hrun⟩ := runInstrs_updbs (s := (s.install cfg).completeOk) rfl hw hs bytes
  have hstream := (runInstrs_cons (exec_init_of_supported hsel ⟨hw, hp, hs⟩) _).trans
    ((runInstrs_append hrun _).trans (runInstrs_cons (exec_finalize_of_initialized rfl) []))
  exact ⟨_, hstream, rfl, rfl, freeze_absorb_install_digest s hw bytes, rfl⟩

/-- The result of a one-shot command is read as the DIGEST of a finalized context is. -/
theorem oneShot_views_eq {t u : State} (hl : t.life = .finalized) (hv : u.ovalid = true) (hd : u.odigest = t.digest)
    (hw : u.owidth = t.cfgWidth) (hp : u.params = t.params) :
    u.readReg .ooutBytes = t.readReg .outBytes ∧ u.readReg .ooutHex = t.readReg .outHex := by
  rw [readReg_of_holds (r := .ooutBytes) hv, readReg_of_holds (r := .ooutHex) hv,
    readReg_of_holds (r := .outBytes) (decide_eq_true hl), readReg_of_holds (r := .outHex) (decide_eq_true hl)]
  simp only [State.content, hd, hw, hp, and_self]

/-- Settles O42: the stream and both one-shot commands leave the checksum of the bytes. -/
theorem oneShotEqualsStreaming : Obligations.OneShotEqualsStreaming := by
  intro s c cfg bytes hsel hok
  obtain ⟨t, hrun, hl, hw, hd, hp⟩ := runInstrs_stream hsel hok bytes
  refine ⟨t, hrun, hl, hw, ?source, fun l hcap hlen hbytes hreads => ?buffer⟩
  case source =>
    exact ⟨_, exec_computeSrc_of_ended ((selectCfg_setSrc c _).trans hsel) hok (srcRun_opened_eof ..), rfl, hd.symm,
      hw.symm, oneShot_views_eq hl rfl hd.symm hw.symm hp.symm⟩
  case buffer =>
    refine ⟨_, exec_computeBuf_of_ok hsel hok (effectiveLength_ok s l hcap hlen), ?_⟩
    rw [hbytes, bufBytes_of_reads s bytes hreads]
    exact ⟨rfl, hd.symm, hw.symm, oneShot_views_eq hl rfl hd.symm hw.symm hp.symm⟩

/-! ### The empty input (`42_finalize_serialize.md` R86) -/

theorem Cfg.checksum_nil (cfg : Cfg) : cfg.checksum [] = 0 := by
  rw [Cfg.checksum, updateBytes_nil, finalizeValue, BitVec.xor_self]
  exact BitVec.setWidth_zero 64 _

theorem hexView_zero_16 (order : ByteOrder) : hexView 0 16#8 order = 0x30303030#128 := by
  cases order <;> decide

theorem hexView_zero_64 (order : ByteOrder) : hexView 0 64#8 order = 0x30303030303030303030303030303030#128 := by
  cases order <;> decide

/-- Settles O45: the stream of no byte leaves the seed XOR itself, and the digits of 0 are read at the preset's width. -/
theorem emptyInputGivesZero : Obligations.EmptyInputGivesZero := by
  intro s c cfg hsel hok
  obtain ⟨t, hrun, hl, hw, hd, -⟩ := runInstrs_stream hsel hok []
  rw [Cfg.checksum_nil] at hd
  have hhex : t.readReg .outHex = hexView 0 cfg.width t.params.byteOrder := by
    rw [readReg_of_holds (r := .outHex) (decide_eq_true hl), State.content, hd, hw]
  refine ⟨t, hrun, hl, hd, ?_, ?_⟩
  · rintro rfl
    cases hsel
    exact hhex.trans (hexView_zero_16 _)
  · rintro rfl
    cases hsel
    exact hhex.trans (hexView_zero_64 _)

end Sys2Proof.Machine
end

section
/-! PROOFS. The whole machine (`10_state.md` R11, R21 to R28, R33, R34; `20_memory.md` R35 to R41;
`70_reset_and_hazards.md`): what a step does with each host action, and which steps change STATE and TABLE. -/

namespace Sys2Proof.Machine

open Sys2Proof

/-! ### What a step finds at the ports (`20_memory.md` R41, `70_reset_and_hazards.md` R128) -/

section

variable {s : State} {a : HostAction} {rest : List HostAction}

theorem step_access (hidle : s.engine = .idle) (h : s.host = a :: rest) (hcmd : ∀ w, a ≠ .cmd w) :
    step s = hostAccess a (s.pop rest) := by
  cases a with
  | cmd w => exact absurd rfl (hcmd w)
  | _ => simp only [step, portsOf, h, hidle]

theorem step_waiting (hwait : s.engine = .waiting) (h : s.host = a :: rest) (ha : a ≠ .reset) :
    step s = .refused .hostDuringCommand := by
  cases a with
  | reset => exact absurd rfl ha
  | _ => simp only [step, portsOf, h, hwait]

theorem step_quiet (h : s.host = []) : step s = .next s := by
  simp only [step, portsOf, h]

end

/-- Settles O58: no action is the quiet port, and a waiting engine takes only a reset. -/
theorem quietAndWaitingBlocksHoldTheirState : Obligations.QuietAndWaitingBlocksHoldTheirState := fun _ =>
  ⟨step_quiet, fun _ _ => step_waiting⟩

/-- Settles O6: the oldest word is run, and a word that decodes to no command is no legal word. -/
theorem stepRunsTheDecodedCommand : Obligations.StepRunsTheDecodedCommand := by
  intro s w rest hidle h
  have hstep : step s = runWord w (s.pop rest) := step_command s w rest h hidle
  refine ⟨hstep, fun i hd => hstep.trans (runWord_of_decode hd _), fun hnone => ?_⟩
  have hillegal : ¬ LegalWord w := fun hw => (decode_of_legalWord hw).elim hnone
  rw [hstep, runWord_of_not_legalWord hillegal, State.raise_illegalCommand]
  rfl

/-! ### Reset (`10_state.md` R33, `70_reset_and_hazards.md` R123) -/

theorem resetFor_holds_iff (p : Params) (r : Reg) :
    (State.resetFor p).holds r = true ↔ r ∈ [Reg.state, .result, .errlog, .errinfo, .ovalid, .bufLen] := by
  cases r <;> simp [State.holds, State.resetFor]

/-- Settles O7: the stated values by the definition, the registers that hold one read off the register map. -/
theorem resetLeavesTheStatedValues : Obligations.ResetLeavesTheStatedValues := fun p =>
  ⟨rfl, rfl, rfl, rfl, rfl, rfl, rfl, resetFor_holds_iff p, fun _ => if_pos rfl, fun _ => rfl⟩

/-- Settles O9: a reset is taken whatever the engine does. -/
theorem resetActsAtAnyTime : Obligations.ResetActsAtAnyTime := fun _ _ h => ⟨_, step_reset h, rfl, rfl⟩

/-! ### Reads (`10_state.md` R27, R34; `20_memory.md` R36, R37) -/

section

variable {s : State}

theorem readEntry_of_created (hl : s.life = .created) (i : Byte) :
    s.readEntry i = Config.freeEntry s.draws i.toNat :=
  if_pos hl

theorem readEntry_of_not_created (hl : s.life ≠ .created) (i : Byte) : s.readEntry i = lookup s.table i :=
  if_neg hl

theorem bufByte_of_none {off : Nat} (h : s.buf.read off = none) : s.bufByte off = Config.freeByte s.draws off := by
  simp only [State.bufByte, h]

theorem bufByte_of_some {off : Nat} {b : Byte} (h : s.buf.read off = some b) : s.bufByte off = b := by
  simp only [State.bufByte, h]

end

/-- Settles O56: the column of the register map register by register, and each kind of read by what it finds. -/
theorem valuelessReadsAreFree : Obligations.ValuelessReadsAreFree := by
  refine fun s => ⟨fun r => ?_, fun _ => readReg_of_not_holds, fun _ => readReg_of_holds, readEntry_of_created,
    readEntry_of_not_created, fun _ => bufByte_of_none, fun _ _ => bufByte_of_some⟩
  cases r with
  | state | result | errlog | errinfo | ovalid | bufLen => exact iff_of_true rfl trivial
  | owidth | odigest | ooutBytes | ooutHex | argWidth | argPoly | argSeed | argLen => exact Iff.rfl
  | cfgWidth | cfgPoly | cfgSeed | reg | digest | outBytes | outHex => exact decide_eq_true_iff

/-- Settles O55: a read is answered and counted, a write of TABLE is dropped, and SRC names its script. -/
theorem readsHaveNoSideEffect : Obligations.ReadsHaveNoSideEffect :=
  ⟨fun _ _ _ hidle h => step_access hidle h nofun, fun _ _ _ hidle h => step_access hidle h nofun,
    fun _ _ _ _ hidle h => step_access hidle h nofun, fun _ _ _ hidle h => step_access hidle h nofun,
    fun _ _ _ hidle h => ⟨_, step_access hidle h nofun, rfl, rfl⟩⟩

/-! ### Host writes (`10_state.md` R21 to R23, R28) -/

/-- The registers the host can write. -/
abbrev Reg.Writable (r : Reg) : Prop := r ∈ [Reg.argWidth, .argPoly, .argSeed, .argLen, .bufLen]

section

variable (s : State) {r : Reg} (v : BitVec r.width)

theorem writeReg_of_not_writable (hr : ¬ r.Writable) : s.writeReg r v = s := by
  cases r with
  | argWidth | argPoly | argSeed | argLen | bufLen => simp at hr
  | _ => rfl

theorem writeReg_same (hr : r.Writable) : (s.writeReg r v).holds r = true ∧ (s.writeReg r v).content r = v := by
  cases r with
  | argWidth | argPoly | argSeed | argLen | bufLen => exact ⟨rfl, rfl⟩
  | _ => simp at hr

/-- A register is computed from fields that a write of another register leaves alone. -/
theorem writeReg_other {q : Reg} (hq : q ≠ r) :
    (s.writeReg r v).holds q = s.holds q ∧ (s.writeReg r v).content q = s.content q := by
  cases r with
  | argWidth | argPoly | argSeed | argLen | bufLen => cases q <;> simp at hq <;> exact ⟨rfl, rfl⟩
  | _ => exact ⟨rfl, rfl⟩

end

/-- Settles O54: a number that is no register, a read-only register, and a register the host can write. -/
theorem hostWriteReachesItsRegisterOnly : Obligations.HostWriteReachesItsRegisterOnly := by
  refine ⟨fun _ _ _ _ hidle h => step_access hidle h nofun, fun s r v rest hidle h => ?_⟩
  refine ⟨(s.pop rest).writeReg r v, step_access hidle h nofun, by simp, writeReg_same _ v,
    writeReg_of_not_writable _ v, fun q hq => writeReg_other _ v hq, ?_⟩
  simp

/-! ### Host accesses to BUF (`20_memory.md` R38, R39) -/

/-- Settles O57: below BUFCAP the access reaches its byte, from BUFCAP on it is a fault. -/
theorem hostAccessToTheBuffer : Obligations.HostAccessToTheBuffer := by
  intro s off rest hidle
  have hfault {a : HostAction} (h : s.host = a :: rest) (ha : a = .rdBuf off ∨ ∃ b, a = .wrBuf off b)
      (hoff : s.params.bufCap.toNat ≤ off) : step s = .fault (.bufOffsetOutside off) := by
    obtain rfl | ⟨b, rfl⟩ := ha <;> exact (step_access hidle h nofun).trans (if_neg (Nat.not_lt.2 hoff))
  refine ⟨fun b h hoff => ?write, fun h hoff => ?read, fun b h => hfault h (.inr ⟨b, rfl⟩),
    fun h => hfault h (.inl rfl)⟩
  case write =>
    exact ⟨(s.pop rest).storeByte off b, (step_access hidle h nofun).trans (if_pos hoff), rfl,
      fun a => Memory.read_write s.buf off a b⟩
  case read => exact (step_access hidle h nofun).trans (if_pos hoff)

/-! ### The steps that change TABLE (`40_init_table.md` R75) -/

theorem Effect.table_eq_or_init {i : Instr} {s t : State} (h : Effect i s t) :
    t.table = s.table ∨ ∃ c, i = .init c ∧ t.result = .ok := by
  cases h with
  | installed c hi => exact .inr ⟨c, hi, rfl⟩
  | _ => exact .inl rfl

/-- Settles O47: among the effects of a command only the installed configuration writes TABLE. -/
theorem tableIsWrittenOnlyByInit : Obligations.TableIsWrittenOnlyByInit := by
  intro s t h
  cases step_did s t h with
  | reset rest hh => exact .inr (.inr ⟨rest, hh, rfl⟩)
  | command w rest hh he i hd t ht =>
    obtain htable | ⟨c, rfl, hok⟩ := (exec_effect i _ t ht).table_eq_or_init
    · exact .inl htable
    · exact .inr (.inl ⟨w, rest, c, hh, hd, hok⟩)
  | wrote => exact .inl (State.writeReg_table ..)
  | quiet | illegal | ignored | replied | wroteBuf | named => exact .inl rfl

/-! ### The steps that change STATE (`10_state.md` R11) -/

/-- The STATE a successful command leaves, from the STATE it finds. -/
def Life.after : Life → Instr → Life
  | _, .init _ => .initialized
  | _, .updb _ => .initialized
  | _, .update _ => .initialized
  | _, .finalize => .finalized
  | _, .finalizeHex => .finalized
  | l, .computeBuf _ _ => l
  | l, .computeSrc _ => l

theorem Life.after_of_isOneShot {i : Instr} (hi : i.isOneShot = true) (l : Life) : l.after i = l := by
  cases i with
  | computeBuf | computeSrc => rfl
  | init | updb | update | finalize | finalizeHex => cases hi

section

variable {i : Instr} {s t : State}

theorem Effect.life_of_ok (h : Effect i s t) (hidle : t.engine = .idle) (hok : t.result = .ok) :
    t.life = s.life.after i := by
  cases h with
  | illegal | badArgument | badState | badOneShot | badSource => cases hok
  | installed c hi => subst hi; rfl
  | absorbed hi hl => obtain ⟨_, rfl⟩ | ⟨_, rfl⟩ := hi <;> exact hl
  | froze hi => obtain rfl | rfl := hi <;> rfl
  | reread hi hl => subst hi; exact hl
  | stored hi | storedFromSrc hi => exact (Life.after_of_isOneShot hi _).symm
  | waits => simp at hidle

theorem Effect.life_of_failed (h : Effect i s t) (hidle : t.engine = .idle) (hfail : t.result ≠ .ok) :
    t.life = s.life := by
  cases h.completion hidle with
  | ok hres => exact absurd hres hfail
  | failed => rfl

/-- The two ways a command changes STATE. -/
theorem Effect.life_eq_or (h : Effect i s t) :
    t.life = s.life ∨ t.result = .ok ∧
      ((∃ c, i = .init c ∧ t.life = .initialized) ∨
        ((i = .finalize ∨ i = .finalizeHex) ∧ s.life = .initialized ∧ t.life = .finalized)) := by
  cases h with
  | installed c hi => exact .inr ⟨rfl, .inl ⟨c, hi, rfl⟩⟩
  | froze hi hl => exact .inr ⟨rfl, .inr ⟨hi, hl, rfl⟩⟩
  | _ => exact .inl rfl

end

/-- Settles O48: the STATE of each effect of a command, and the effects and the reset among what a step can do. -/
theorem lifeCycleTransitions : Obligations.LifeCycleTransitions := by
  refine ⟨rfl, rfl, rfl, fun i s t h hidle => ⟨(exec_effect i s t h).life_of_failed hidle, fun hok => ?command⟩,
    fun s t h => ?step⟩
  case command =>
    rw [(exec_effect i s t h).life_of_ok hidle hok]
    cases i <;> rfl
  case step =>
    cases step_did s t h with
    | reset rest hh => exact .inr (.inl ⟨rest, hh, rfl⟩)
    | command w rest hh he i hd t ht =>
      obtain hlife | ⟨hok, hchange⟩ := (exec_effect i _ t ht).life_eq_or
      · exact .inl hlife
      · exact .inr (.inr ⟨w, rest, i, hh, hd, hok, hchange⟩)
    | wrote => exact .inl (State.writeReg_life ..)
    | quiet | illegal | ignored | replied | wroteBuf | named => exact .inl rfl

end Sys2Proof.Machine
end
